-- ==== Sys2Proof/Word.lean ====
section
/-! DEFINITION. The word type of the register window: every datum is one byte (spec/20_memory.md R53,
spec/00_scope.md R9). Addresses are plain natural numbers below `2 ^ ADDR_BITS`; the filter works in `Int` (R11). -/

namespace Sys2Proof

/-- A register datum: 8 bits (R9, R53). -/
abbrev Byte := BitVec 8

end Sys2Proof
end

