-- ==== Sys2Proof/Config.lean ====
section
/-! DEFINITION. What an implementation fixes (spec/00_scope.md R7, the parameters), the reference instantiation REF
of R7, and the free values: constants with no body, of which nothing can be proved. -/

namespace Sys2Proof

/-- The four Channel Generators: 1 pulse 1 (with the sweep), 2 pulse 2, 3 wavetable, 4 noise (R2). -/
inductive GenId where
  | g1 | g2 | g3 | g4
deriving DecidableEq, Repr

/-- One call on a generator (spec/44_generator_interface.md R171). `read` and `write` take the offset in the
generator's block, `readStorage` and `writeStorage` the index in the extended block. -/
inductive GenOp where
  | power
  | run
  | sample
  | clockLength
  | clockEnvelope
  | clockSweep
  | read (off : Nat)
  | write (off : Nat) (v : Byte)
  | readStorage (i : Nat)
  | writeStorage (i : Nat) (v : Byte)
deriving DecidableEq, Repr

/-- The contract fields that the three events and the register writes act on (spec/44_generator_interface.md R173). `vol`,
`envCnt`, `envUp` are used by g = 1, 2, 4, and `freq`, `swCnt`, `swDown`, `swShift` by g = 1. -/
structure GenControl where
  len : Nat
  lenMode : Bool
  vol : BitVec 4
  envCnt : Nat
  envUp : Bool
  freq : Nat
  swCnt : Nat
  swDown : Bool
  swShift : Nat
deriving DecidableEq, Repr, Inhabited

/-- A closed address range `[lo, hi]` (R7, R10). -/
structure Range where
  lo : Nat
  hi : Nat
deriving DecidableEq, Repr

/-- The parameter `VolScale` as plain data (log 2): the reference formula `x * v` of
spec/41_mixer.md R112, or any other function, given by its values at `x = 0, 1, 2, …` (rows) and `v = 0 … 7` (columns). -/
inductive VolScale where
  | product
  | table (rows : List (List Int))
deriving DecidableEq, Repr

/-- The parameter `CenterScale` as plain data (log 2): the identity of R113, or the values at 0, 1, 2, …. -/
inductive CenterScale where
  | identity
  | table (row : List Int)
deriving DecidableEq, Repr

/-- The implementation parameters of R7, all but the generators, which State holds. -/
structure Params where
  /-- `SEQ_DIV`, subsystem cycles per sequencer tick. -/
  seqDiv : Nat
  /-- `HAS_CENTER`. -/
  hasCenter : Bool
  /-- `GEN_SAMPLE_MAX`. -/
  genSampleMax : Nat
  volScale : VolScale
  centerScale : CenterScale
  /-- `SHIFT_A`. -/
  shiftA : Nat
  /-- `SHIFT_B`. -/
  shiftB : Nat
  /-- `K`, the filter's decay constant. -/
  k : Nat
  /-- `ADDR_BITS`. -/
  addrBits : Nat
  /-- `[WIN_LO, WIN_HI]`. -/
  win : Range
  rngG1 : Range
  rngG2 : Range
  rngG3 : Range
  rngG4 : Range
  rngM : Range
  rngW : Range
  /-- `WAVE_INIT`, one byte per address of `RNG_W`. -/
  waveInit : List Byte
  /-- `FREQ_MAX`. -/
  freqMax : Nat
  /-- `CLK_STEP`. -/
  clkStep : Nat
deriving DecidableEq, Repr

/-- FREE VALUE (log 3): the power-on content of the extended block. The spec gives no pattern
(spec/93_implementation_defined.md I11: a proof must hold for every value). -/
opaque Config.waveInit : Nat → Byte

/-- FREE VALUE (log 2): `VolScale` at an argument for which a table has no entry. -/
opaque Config.volScaleBeyond : Int → BitVec 3 → Int

/-- FREE VALUE (log 2): `CenterScale` at an argument for which a table has no entry. -/
opaque Config.centerScaleBeyond : Int → Int

/-! The free values of a generator of unknown inside (log 4). A generator is built with the parameters (WAVE_INIT, FREQ_MAX)
and its state is a function of them and of the calls since `power()` (R185): where a value may depend on the generator's
state, the constant takes the parameters and the list of those calls, newest first. -/

/-- FREE VALUE (log 4): the trigger of a generator of unknown inside, the offset and the bit (R183: "which bit of which
offset is the trigger is the generator's layout"). -/
opaque Config.genTrigger : Params → GenId → Nat × Fin 8

/-- FREE VALUE (log 4): the offset of the enable register of generators 3 and 4 (R173 `dac`). -/
opaque Config.genEnableOffset : Params → GenId → Nat

/-- FREE VALUE (log 4): whether a byte in the enable register enables the generator. -/
opaque Config.genEnables : Params → GenId → Byte → Bool

/-- FREE VALUE (log 4): the offset holds a register with no write-only bit (R184). -/
opaque Config.genPlain : Params → GenId → Nat → Bool

/-- FREE VALUE (log 4): the initial values programmed in the registers (R183), for the fields a trigger loads. -/
opaque Config.genLoads : Params → GenId → List Byte → GenControl

/-- FREE VALUE (log 4): what a write makes of the contract fields that the contract leaves open. -/
opaque Config.genWritten : Params → GenId → List GenOp → GenControl → GenControl

/-- FREE VALUE (log 4): an enabled generator stays enabled at a write that is no trigger. -/
opaque Config.genStaysActive : Params → GenId → List GenOp → Bool

/-- FREE VALUE (log 4): the length counter after a length clock that finds it at 0 (I20: a load of 0 is the generator's). -/
opaque Config.genLenAtZero : Params → GenId → List GenOp → Nat

/-- FREE VALUE (log 4): whether an enabled, length-limited generator stays enabled at such a length clock. -/
opaque Config.genActiveAtZero : Params → GenId → List GenOp → Bool

/-- FREE VALUE (log 4): the envelope counter expires at an envelope clock (R181). -/
opaque Config.genEnvExpires : Params → GenId → List GenOp → GenControl → Bool

/-- FREE VALUE (log 4): the envelope counter after an envelope clock. -/
opaque Config.genEnvCount : Params → GenId → List GenOp → GenControl → Nat

/-- FREE VALUE (log 4): the frequencies that generator 1 computes in a sweep clock, by its shift-and-add rule, the new
frequency first; none if the sweep counter does not expire (R182). -/
opaque Config.genSweepComputed : Params → List GenOp → GenControl → List Nat

/-- FREE VALUE (log 4): the sweep counter after a sweep clock; it never goes below zero (R182). -/
opaque Config.genSweepCount : Params → List GenOp → GenControl → Nat

/-- FREE VALUE (log 4): the frequency of generator 1 after a new frequency above `FREQ_MAX`. -/
opaque Config.genSweepOverflow : Params → List GenOp → GenControl → Nat

/-- FREE VALUE (log 4): the sample an enabled generator of unknown inside computes at the `run` that heads the list. It may
play the raw sample storage, which is WAVE_INIT with the `writeStorage` calls of the list made on it. -/
opaque Config.genSample : Params → GenId → List GenOp → Nat

/-- FREE VALUE (log 4): what a generator of unknown inside returns for a read of an offset, where R184 does not say. -/
opaque Config.genRead : Params → GenId → List GenOp → Nat → Byte

/-- FREE VALUE (log 17): what RefGen returns for a read of an offset above 4, which its layout does not have. -/
opaque Config.refReadBeyond : GenId → Nat → Byte

/-- FREE VALUE (log 18): RefGen's 11-bit frequency when a sweep step is allowed by `FREQ_MAX` but does not fit 11 bits. -/
opaque Config.sweepBeyond : Nat → BitVec 11

/-- FREE VALUE (log 19): the byte read at an index outside the extended block. -/
opaque Config.storageBeyond : Nat → Byte

/-- The reference instantiation REF of R7 (log 1; every number in it is the spec's `[from general knowledge]` value). -/
def Params.ref : Params where
  seqDiv := 4096
  hasCenter := false
  genSampleMax := 15
  volScale := .product
  centerScale := .identity
  shiftA := 16
  shiftB := 32
  k := 57593
  addrBits := 16
  win := ⟨0xFF10, 0xFF3F⟩
  rngG1 := ⟨0xFF10, 0xFF14⟩
  rngG2 := ⟨0xFF15, 0xFF19⟩
  rngG3 := ⟨0xFF1A, 0xFF1E⟩
  rngG4 := ⟨0xFF1F, 0xFF23⟩
  rngM := ⟨0xFF24, 0xFF26⟩
  rngW := ⟨0xFF30, 0xFF3F⟩
  waveInit := (List.range 16).map Config.waveInit
  freqMax := 2047
  clkStep := 1

end Sys2Proof
end

