-- ==== Sys2Proof/Machine/Operands.lean ====
section
/-! DEFINITION. Operand forms and plain arithmetic: the integer notation of spec/00_scope.md R11, the fields of the
master-control registers (spec/10_state.md R27, R28), the two scaling parameters (R112, R113), and the address decode
`Route` (spec/43_register_dispatcher.md R144). -/

namespace Sys2Proof.Machine

/-- `x << n` is `x * 2^n` (R11). -/
def shl (x : Int) (n : Nat) : Int := x * ((2 ^ n : Nat) : Int)

/-- `x >> n` is `floor (x / 2^n)`, for negative `x` as well (R11). -/
def shr (x : Int) (n : Nat) : Int := x / ((2 ^ n : Nat) : Int)

/-- `clamp16` saturates to the signed 16-bit range (R11, R127). -/
def clamp16 (x : Int) : Int :=
  if x < -32768 then -32768 else if 32767 < x then 32767 else x

/-- The signed 16-bit range of a sample (R9). -/
abbrev InInt16 (x : Int) : Prop := -32768 ≤ x ∧ x ≤ 32767

/-- `volL = mvol[6:4]`, the master volume of the left output (R27). -/
def volL (mvol : Byte) : BitVec 3 := mvol.extractLsb' 4 3

/-- `volR = mvol[2:0]`, the master volume of the right output (R27). -/
def volR (mvol : Byte) : BitVec 3 := mvol.extractLsb' 0 3

/-- The generator's number, 1 to 4 (R2). -/
def genNumber : GenId → Nat
  | .g1 => 1
  | .g2 => 2
  | .g3 => 3
  | .g4 => 4

/-- `enL[g] = mroute[3+g]`: generator `g` feeds the left output (R28). -/
def enL (mroute : Byte) (g : GenId) : Bool := mroute.getLsbD (3 + genNumber g)

/-- `enR[g] = mroute[g-1]`: generator `g` feeds the right output (R28). -/
def enR (mroute : Byte) (g : GenId) : Bool := mroute.getLsbD (genNumber g - 1)

/-- The parameter `VolScale`, a total function of the sum and the volume (R112). -/
def volScale : VolScale → Int → BitVec 3 → Int
  | .product, x, v => x * (v.toNat : Int)
  | .table rows, x, v =>
    if 0 ≤ x then
      match rows[x.toNat]? with
      | some row =>
        match row[v.toNat]? with
        | some y => y
        | none => Config.volScaleBeyond x v
      | none => Config.volScaleBeyond x v
    else Config.volScaleBeyond x v

/-- The parameter `CenterScale` (R113). -/
def centerScale : CenterScale → Int → Int
  | .identity, x => x
  | .table row, x =>
    if 0 ≤ x then
      match row[x.toNat]? with
      | some y => y
      | none => Config.centerScaleBeyond x
    else Config.centerScaleBeyond x

/-- Membership of an address in a closed range. -/
def inRange (r : Range) (a : Nat) : Bool := r.lo ≤ a && a ≤ r.hi

/-- The number of addresses of a range. -/
def rangeSize (r : Range) : Nat := r.hi + 1 - r.lo

/-- `A_MVOL`, `A_MROUTE`, `A_MCTRL`: the first, second and third address of `RNG_M` (R7). -/
def addrMvol (p : Params) : Nat := p.rngM.lo
@[inherit_doc addrMvol]
def addrMroute (p : Params) : Nat := p.rngM.lo + 1
@[inherit_doc addrMvol]
def addrMctrl (p : Params) : Nat := p.rngM.lo + 2

/-- `RNG_Gg`, the register block of generator `g`. -/
def genRange (p : Params) : GenId → Range
  | .g1 => p.rngG1
  | .g2 => p.rngG2
  | .g3 => p.rngG3
  | .g4 => p.rngG4

/-- The results of `Route` (R144), with the operand that R74 hands on: `offset = addr - lo(region)`. -/
inductive Region where
  | notSelected
  | gen (g : GenId) (off : Nat)
  | mvol
  | mroute
  | mctrl
  | storage (i : Nat)
  | fill
deriving DecidableEq, Repr

/-- `Route(a)` (R144): the tests in their fixed order, no fallthrough. -/
def route (p : Params) (a : Nat) : Region :=
  if a < p.win.lo ∨ p.win.hi < a then .notSelected
  else if inRange p.rngG1 a then .gen .g1 (a - p.rngG1.lo)
  else if inRange p.rngG2 a then .gen .g2 (a - p.rngG2.lo)
  else if inRange p.rngG3 a then .gen .g3 (a - p.rngG3.lo)
  else if inRange p.rngG4 a then .gen .g4 (a - p.rngG4.lo)
  else if a = addrMvol p then .mvol
  else if a = addrMroute p then .mroute
  else if a = addrMctrl p then .mctrl
  else if inRange p.rngW a then .storage (a - p.rngW.lo)
  else .fill

end Sys2Proof.Machine
end

