-- ==== Sys2Proof/Syntax.lean ====
section
/-! DEFINITION. The operations of the block (spec/00_scope.md R5), one constructor for each row of
spec/opcode_table.json. The block is no processor: these stand in place of an instruction set (R1). -/

namespace Sys2Proof

/-- The 62 rows of spec/opcode_table.json. A `WR` carries its datum; a row that covers several addresses (`FILL.28`,
`W`) carries which one. The fields that spec/30_encoding.md R72 ignores (`addr` and `data` of `CYCLE` and `RESET`, `data`
of `RD`) are no operands. -/
inductive Instr where
  /-- `CLK_LEN`, the length clock (R93); format EVT, `xx0` (R75). -/
  | clkLen
  /-- `CLK_SWP`, the sweep clock (R94); format EVT, `x10` (R76). -/
  | clkSwp
  /-- `CLK_ENV`, the envelope clock (R95); format EVT, `111` (R77). -/
  | clkEnv
  /-- `CYCLE`, one subsystem cycle (R210). -/
  | cycle
  /-- `SEQ`, first sub-operation of a cycle (R91, R92). -/
  | seq
  /-- `RUN`, second sub-operation (R211). -/
  | run
  /-- `MIX`, third sub-operation (R111). -/
  | mix
  /-- `HPF`, fourth sub-operation, for every output channel (R126, R210 lines 4 and 5). -/
  | hpf
  /-- `EMIT`, last sub-operation (R212). -/
  | emit
  /-- `RESET`, power-on (R260). -/
  | reset
  /-- `RD.G1.0` (R146). -/
  | rdG10
  /-- `WR.G1.0` (R147). -/
  | wrG10 (d : Byte)
  /-- `RD.G1.1` (R146). -/
  | rdG11
  /-- `WR.G1.1` (R147). -/
  | wrG11 (d : Byte)
  /-- `RD.G1.2` (R146). -/
  | rdG12
  /-- `WR.G1.2` (R147). -/
  | wrG12 (d : Byte)
  /-- `RD.G1.3` (R146). -/
  | rdG13
  /-- `WR.G1.3` (R147). -/
  | wrG13 (d : Byte)
  /-- `RD.G1.4` (R146). -/
  | rdG14
  /-- `WR.G1.4` (R147). -/
  | wrG14 (d : Byte)
  /-- `RD.G2.0` (R146). -/
  | rdG20
  /-- `WR.G2.0` (R147). -/
  | wrG20 (d : Byte)
  /-- `RD.G2.1` (R146). -/
  | rdG21
  /-- `WR.G2.1` (R147). -/
  | wrG21 (d : Byte)
  /-- `RD.G2.2` (R146). -/
  | rdG22
  /-- `WR.G2.2` (R147). -/
  | wrG22 (d : Byte)
  /-- `RD.G2.3` (R146). -/
  | rdG23
  /-- `WR.G2.3` (R147). -/
  | wrG23 (d : Byte)
  /-- `RD.G2.4` (R146). -/
  | rdG24
  /-- `WR.G2.4` (R147). -/
  | wrG24 (d : Byte)
  /-- `RD.G3.0` (R146). -/
  | rdG30
  /-- `WR.G3.0` (R147). -/
  | wrG30 (d : Byte)
  /-- `RD.G3.1` (R146). -/
  | rdG31
  /-- `WR.G3.1` (R147). -/
  | wrG31 (d : Byte)
  /-- `RD.G3.2` (R146). -/
  | rdG32
  /-- `WR.G3.2` (R147). -/
  | wrG32 (d : Byte)
  /-- `RD.G3.3` (R146). -/
  | rdG33
  /-- `WR.G3.3` (R147). -/
  | wrG33 (d : Byte)
  /-- `RD.G3.4` (R146). -/
  | rdG34
  /-- `WR.G3.4` (R147). -/
  | wrG34 (d : Byte)
  /-- `RD.G4.0` (R146). -/
  | rdG40
  /-- `WR.G4.0` (R147). -/
  | wrG40 (d : Byte)
  /-- `RD.G4.1` (R146). -/
  | rdG41
  /-- `WR.G4.1` (R147). -/
  | wrG41 (d : Byte)
  /-- `RD.G4.2` (R146). -/
  | rdG42
  /-- `WR.G4.2` (R147). -/
  | wrG42 (d : Byte)
  /-- `RD.G4.3` (R146). -/
  | rdG43
  /-- `WR.G4.3` (R147). -/
  | wrG43 (d : Byte)
  /-- `RD.G4.4` (R146). -/
  | rdG44
  /-- `WR.G4.4` (R147). -/
  | wrG44 (d : Byte)
  /-- `RD.MVOL` (R148). -/
  | rdMvol
  /-- `WR.MVOL` (R149). -/
  | wrMvol (d : Byte)
  /-- `RD.MROUTE` (R150). -/
  | rdMroute
  /-- `WR.MROUTE` (R151). -/
  | wrMroute (d : Byte)
  /-- `RD.MCTRL` (R152). -/
  | rdMctrl
  /-- `WR.MCTRL` (R153). -/
  | wrMctrl (d : Byte)
  /-- `RD.FILL.27` (R156): the fill address that follows the master-control block (log 22). -/
  | rdFill27
  /-- `WR.FILL.27` (R157). -/
  | wrFill27 (d : Byte)
  /-- `RD.FILL.28` (R156): the fill address `a`, any other than `FILL.27`'s (log 22). -/
  | rdFill28 (a : Nat)
  /-- `WR.FILL.28` (R157). -/
  | wrFill28 (a : Nat) (d : Byte)
  /-- `RD.W` (R154): byte `i` of the extended block. -/
  | rdW (i : Nat)
  /-- `WR.W` (R155). -/
  | wrW (i : Nat) (d : Byte)
deriving DecidableEq, Repr

end Sys2Proof
end

