-- ==== Sys2Proof/WellFormed.lean ====
section
/-! DEFINITION. Which parameter sets the model accepts (spec/00_scope.md R7, R8; spec/41_mixer.md R116) and which
instructions exist under a parameter set. -/

namespace Sys2Proof

open Machine

/-- The six sub-ranges of the window (R8). -/
def Params.ranges (p : Params) : List Range :=
  [p.rngG1, p.rngG2, p.rngG3, p.rngG4, p.rngM, p.rngW]

/-- Two closed ranges share no address. -/
def Range.disjoint (r s : Range) : Bool := r.hi < s.lo || s.hi < r.lo

/-- A value in the signed 16-bit range. -/
def isInt16 (x : Int) : Bool := decide (InInt16 x)

/-- R8: the six sub-ranges lie inside the window and are pairwise disjoint. -/
def Params.mapWf (p : Params) : Bool :=
  p.win.lo ≤ p.win.hi && (p.win.hi < 2 ^ p.addrBits
    && (p.ranges.all (fun r => r.lo ≤ r.hi && (p.win.lo ≤ r.lo && r.hi ≤ p.win.hi))
    && decide (p.ranges.Pairwise (fun r s => r.disjoint s))))

/-- R116 for `VolScale`: every sum of `[0, 4*GEN_SAMPLE_MAX]` at every volume gives a 16-bit value. A table has to
list exactly those arguments (log 2). -/
def Params.volScaleWf (p : Params) : Bool :=
  match p.volScale with
  | .product => 4 * p.genSampleMax * 7 ≤ 32767
  | .table rows => rows.length == 4 * p.genSampleMax + 1 && rows.all (fun row => row.length == 8 && row.all isInt16)

/-- R116 for `CenterScale`. -/
def Params.centerScaleWf (p : Params) : Bool :=
  match p.centerScale with
  | .identity => 4 * p.genSampleMax ≤ 32767
  | .table row => row.length == 4 * p.genSampleMax + 1 && row.all isInt16

/-- The parameter sets the model accepts: the constraints of R7's table, R8 and R116. -/
def Params.wf (p : Params) : Bool :=
  1 ≤ p.seqDiv && (0 < p.k && (p.k ≤ 2 ^ (2 * p.shiftA) && (1 ≤ p.addrBits && (1 ≤ p.clkStep
    && (p.mapWf && (rangeSize p.rngM == 3 && (p.waveInit.length == rangeSize p.rngW
    && (p.volScaleWf && p.centerScaleWf))))))))

/-- `FILL.27`'s address: the one that follows the master-control block (log 22). -/
def addrFill27 (p : Params) : Nat := p.rngM.hi + 1

/-- The generator offset of a row exists under `p`. -/
def hasOffset (p : Params) (g : GenId) (off : Nat) : Bool := off < rangeSize (genRange p g)

/-- An address of the fill region other than `FILL.27`'s. -/
def isOtherFill (p : Params) (a : Nat) : Bool := route p a == .fill && a != addrFill27 p

/-- The instruction exists under the parameters `p`: its offset lies in the generator's block, its index in the extended
block, its address in the fill region. Under REF every generator row and `FILL.27` does. -/
def Instr.wf (p : Params) : Instr → Bool
  | .clkLen | .clkSwp | .clkEnv | .cycle | .seq | .run | .mix | .hpf | .emit | .reset => true
  | .rdMvol | .wrMvol _ | .rdMroute | .wrMroute _ | .rdMctrl | .wrMctrl _ => true
  | .rdG10 | .wrG10 _ => hasOffset p .g1 0
  | .rdG11 | .wrG11 _ => hasOffset p .g1 1
  | .rdG12 | .wrG12 _ => hasOffset p .g1 2
  | .rdG13 | .wrG13 _ => hasOffset p .g1 3
  | .rdG14 | .wrG14 _ => hasOffset p .g1 4
  | .rdG20 | .wrG20 _ => hasOffset p .g2 0
  | .rdG21 | .wrG21 _ => hasOffset p .g2 1
  | .rdG22 | .wrG22 _ => hasOffset p .g2 2
  | .rdG23 | .wrG23 _ => hasOffset p .g2 3
  | .rdG24 | .wrG24 _ => hasOffset p .g2 4
  | .rdG30 | .wrG30 _ => hasOffset p .g3 0
  | .rdG31 | .wrG31 _ => hasOffset p .g3 1
  | .rdG32 | .wrG32 _ => hasOffset p .g3 2
  | .rdG33 | .wrG33 _ => hasOffset p .g3 3
  | .rdG34 | .wrG34 _ => hasOffset p .g3 4
  | .rdG40 | .wrG40 _ => hasOffset p .g4 0
  | .rdG41 | .wrG41 _ => hasOffset p .g4 1
  | .rdG42 | .wrG42 _ => hasOffset p .g4 2
  | .rdG43 | .wrG43 _ => hasOffset p .g4 3
  | .rdG44 | .wrG44 _ => hasOffset p .g4 4
  | .rdFill27 | .wrFill27 _ => route p (addrFill27 p) == .fill
  | .rdFill28 a | .wrFill28 a _ => isOtherFill p a
  | .rdW i | .wrW i _ => i < rangeSize p.rngW

end Sys2Proof
end

