-- ==== Sys2Proof/Decode.lean ====
section
/-! DEFINITION. The two decoders of spec/30_encoding.md: the 3-bit phase word EVT into the events it fires (R70, R75 to
R78), and the command word CMD into an operation (R71, R72, R79, R80), total, with the encoder and the decoder on the
words of spec/opcode_table.json. -/

namespace Sys2Proof

open Machine

/-! ### Format EVT -/

/-- Decoder `CLK_LEN`: fires iff `phase[0] = 0` (R75). -/
def firesLen (p : BitVec 3) : Bool := p &&& 0b001#3 == 0b000#3

/-- Decoder `CLK_SWP`: fires iff `phase[1:0] = 0b10` (R76). -/
def firesSwp (p : BitVec 3) : Bool := p &&& 0b011#3 == 0b010#3

/-- Decoder `CLK_ENV`: fires iff `phase = 0b111` (R77). -/
def firesEnv (p : BitVec 3) : Bool := p &&& 0b111#3 == 0b111#3

/-- The events one EVT word fires, in the order of R92 lines 2 to 4. Any subset may fire (R70); phases 1, 3 and 5 fire
none (R82 (a)). -/
def decodeEvt (p : BitVec 3) : List Instr :=
  (if firesLen p then [.clkLen] else []) ++ (if firesSwp p then [.clkSwp] else [])
    ++ (if firesEnv p then [.clkEnv] else [])

/-- The EVT words on which an event fires: the encoder's side of `decodeEvt`. -/
def encodeEvt : Instr → List (BitVec 3)
  | .clkLen => [0, 2, 4, 6]
  | .clkSwp => [2, 6]
  | .clkEnv => [7]
  | _ => []

/-! ### Format CMD -/

/-- What a command word asks for: an instruction of the opcode table, or an access for which the table has no row: one
outside the window (R142), or one to a generator's register above offset 4, which exists only under parameters
other than REF's (log 22). -/
inductive Command where
  | instr (i : Instr)
  | rdGen (g : GenId) (off : Nat)
  | wrGen (g : GenId) (off : Nat) (d : Byte)
  | rdNotSelected (a : Nat)
  | wrNotSelected (a : Nat) (d : Byte)
deriving DecidableEq, Repr

/-- The one reason for which a number is rejected by the decoder. -/
inductive DecodeReject where
  /-- The number has more bits than a CMD word of these parameters (R71: `ADDR_BITS + 10` bits, 26 in REF). -/
  | notACommandWord
deriving DecidableEq, Repr

/-- The `RD` row of generator `g`, offset `off` (R80). -/
def rdGenRow : GenId → Nat → Option Instr
  | .g1, 0 => some .rdG10
  | .g1, 1 => some .rdG11
  | .g1, 2 => some .rdG12
  | .g1, 3 => some .rdG13
  | .g1, 4 => some .rdG14
  | .g2, 0 => some .rdG20
  | .g2, 1 => some .rdG21
  | .g2, 2 => some .rdG22
  | .g2, 3 => some .rdG23
  | .g2, 4 => some .rdG24
  | .g3, 0 => some .rdG30
  | .g3, 1 => some .rdG31
  | .g3, 2 => some .rdG32
  | .g3, 3 => some .rdG33
  | .g3, 4 => some .rdG34
  | .g4, 0 => some .rdG40
  | .g4, 1 => some .rdG41
  | .g4, 2 => some .rdG42
  | .g4, 3 => some .rdG43
  | .g4, 4 => some .rdG44
  | _, _ => none

/-- The `WR` row of generator `g`, offset `off` (R80). -/
def wrGenRow : GenId → Nat → Byte → Option Instr
  | .g1, 0, d => some (.wrG10 d)
  | .g1, 1, d => some (.wrG11 d)
  | .g1, 2, d => some (.wrG12 d)
  | .g1, 3, d => some (.wrG13 d)
  | .g1, 4, d => some (.wrG14 d)
  | .g2, 0, d => some (.wrG20 d)
  | .g2, 1, d => some (.wrG21 d)
  | .g2, 2, d => some (.wrG22 d)
  | .g2, 3, d => some (.wrG23 d)
  | .g2, 4, d => some (.wrG24 d)
  | .g3, 0, d => some (.wrG30 d)
  | .g3, 1, d => some (.wrG31 d)
  | .g3, 2, d => some (.wrG32 d)
  | .g3, 3, d => some (.wrG33 d)
  | .g3, 4, d => some (.wrG34 d)
  | .g4, 0, d => some (.wrG40 d)
  | .g4, 1, d => some (.wrG41 d)
  | .g4, 2, d => some (.wrG42 d)
  | .g4, 3, d => some (.wrG43 d)
  | .g4, 4, d => some (.wrG44 d)
  | _, _, _ => none

/-- The `RD` command at address `a` (R79, R80). -/
def decodeRd (p : Params) (a : Nat) : Command :=
  match route p a with
  | .notSelected => .rdNotSelected a
  | .gen g off =>
    match rdGenRow g off with
    | some i => .instr i
    | none => .rdGen g off
  | .mvol => .instr .rdMvol
  | .mroute => .instr .rdMroute
  | .mctrl => .instr .rdMctrl
  | .storage i => .instr (.rdW i)
  | .fill => .instr (if a = addrFill27 p then .rdFill27 else .rdFill28 a)

/-- The `WR` command at address `a` with datum `d` (R79, R80). -/
def decodeWr (p : Params) (a : Nat) (d : Byte) : Command :=
  match route p a with
  | .notSelected => .wrNotSelected a d
  | .gen g off =>
    match wrGenRow g off d with
    | some i => .instr i
    | none => .wrGen g off d
  | .mvol => .instr (.wrMvol d)
  | .mroute => .instr (.wrMroute d)
  | .mctrl => .instr (.wrMctrl d)
  | .storage i => .instr (.wrW i d)
  | .fill => .instr (if a = addrFill27 p then .wrFill27 d else .wrFill28 a d)

/-- The number of bits of a CMD word: `data` 8, `addr` ADDR_BITS, `op` 2 (R71). -/
def cmdBits (p : Params) : Nat := p.addrBits + 10

/-- Field `op`, the two bits above `addr` (R71). -/
def cmdOp (p : Params) (w : Nat) : Nat := w / 2 ^ (p.addrBits + 8) % 4

/-- Field `addr = [ADDR_BITS+7:8]` (R71). -/
def cmdAddr (p : Params) (w : Nat) : Nat := w / 2 ^ 8 % 2 ^ p.addrBits

/-- Field `data = [7:0]` (R71). -/
def cmdData (w : Nat) : Byte := BitVec.ofNat 8 w

/-- The decoder of the CMD word (R72: every word decodes; the fields it does not use are ignored). -/
def decode (p : Params) (w : Nat) : Except DecodeReject Command :=
  if w < 2 ^ cmdBits p then
    match cmdOp p w with
    | 0 => .ok (.instr .cycle)
    | 1 => .ok (.instr .reset)
    | 2 => .ok (decodeRd p (cmdAddr p w))
    | _ => .ok (decodeWr p (cmdAddr p w) (cmdData w))
  else .error .notACommandWord

/-! ### The encoder -/

/-- The four operations of the CMD word with their operands (R71, R72). -/
inductive Cmd where
  | cycle
  | reset
  | rd (a : Nat)
  | wr (a : Nat) (d : Byte)
deriving DecidableEq, Repr

/-- The canonical CMD word of an operation (R72, R84). -/
def encodeCmd (p : Params) : Cmd → Nat
  | .cycle => 0
  | .reset => 2 ^ (p.addrBits + 8)
  | .rd a => 2 * 2 ^ (p.addrBits + 8) + a * 2 ^ 8
  | .wr a d => 3 * 2 ^ (p.addrBits + 8) + a * 2 ^ 8 + d.toNat

/-- The address of generator `g`'s register at offset `off`. -/
def genAddr (p : Params) (g : GenId) (off : Nat) : Nat := (genRange p g).lo + off

/-- The operation an instruction is written as; the events and the sub-operations of `CYCLE` have none (R81). -/
def Instr.cmd (p : Params) : Instr → Option Cmd
  | .clkLen | .clkSwp | .clkEnv | .seq | .run | .mix | .hpf | .emit => none
  | .cycle => some .cycle
  | .reset => some .reset
  | .rdG10 => some (.rd (genAddr p .g1 0))
  | .wrG10 d => some (.wr (genAddr p .g1 0) d)
  | .rdG11 => some (.rd (genAddr p .g1 1))
  | .wrG11 d => some (.wr (genAddr p .g1 1) d)
  | .rdG12 => some (.rd (genAddr p .g1 2))
  | .wrG12 d => some (.wr (genAddr p .g1 2) d)
  | .rdG13 => some (.rd (genAddr p .g1 3))
  | .wrG13 d => some (.wr (genAddr p .g1 3) d)
  | .rdG14 => some (.rd (genAddr p .g1 4))
  | .wrG14 d => some (.wr (genAddr p .g1 4) d)
  | .rdG20 => some (.rd (genAddr p .g2 0))
  | .wrG20 d => some (.wr (genAddr p .g2 0) d)
  | .rdG21 => some (.rd (genAddr p .g2 1))
  | .wrG21 d => some (.wr (genAddr p .g2 1) d)
  | .rdG22 => some (.rd (genAddr p .g2 2))
  | .wrG22 d => some (.wr (genAddr p .g2 2) d)
  | .rdG23 => some (.rd (genAddr p .g2 3))
  | .wrG23 d => some (.wr (genAddr p .g2 3) d)
  | .rdG24 => some (.rd (genAddr p .g2 4))
  | .wrG24 d => some (.wr (genAddr p .g2 4) d)
  | .rdG30 => some (.rd (genAddr p .g3 0))
  | .wrG30 d => some (.wr (genAddr p .g3 0) d)
  | .rdG31 => some (.rd (genAddr p .g3 1))
  | .wrG31 d => some (.wr (genAddr p .g3 1) d)
  | .rdG32 => some (.rd (genAddr p .g3 2))
  | .wrG32 d => some (.wr (genAddr p .g3 2) d)
  | .rdG33 => some (.rd (genAddr p .g3 3))
  | .wrG33 d => some (.wr (genAddr p .g3 3) d)
  | .rdG34 => some (.rd (genAddr p .g3 4))
  | .wrG34 d => some (.wr (genAddr p .g3 4) d)
  | .rdG40 => some (.rd (genAddr p .g4 0))
  | .wrG40 d => some (.wr (genAddr p .g4 0) d)
  | .rdG41 => some (.rd (genAddr p .g4 1))
  | .wrG41 d => some (.wr (genAddr p .g4 1) d)
  | .rdG42 => some (.rd (genAddr p .g4 2))
  | .wrG42 d => some (.wr (genAddr p .g4 2) d)
  | .rdG43 => some (.rd (genAddr p .g4 3))
  | .wrG43 d => some (.wr (genAddr p .g4 3) d)
  | .rdG44 => some (.rd (genAddr p .g4 4))
  | .wrG44 d => some (.wr (genAddr p .g4 4) d)
  | .rdMvol => some (.rd (addrMvol p))
  | .wrMvol d => some (.wr (addrMvol p) d)
  | .rdMroute => some (.rd (addrMroute p))
  | .wrMroute d => some (.wr (addrMroute p) d)
  | .rdMctrl => some (.rd (addrMctrl p))
  | .wrMctrl d => some (.wr (addrMctrl p) d)
  | .rdFill27 => some (.rd (addrFill27 p))
  | .wrFill27 d => some (.wr (addrFill27 p) d)
  | .rdFill28 a => some (.rd a)
  | .wrFill28 a d => some (.wr a d)
  | .rdW i => some (.rd (p.rngW.lo + i))
  | .wrW i d => some (.wr (p.rngW.lo + i) d)

/-- The canonical CMD word of an instruction, where it has one. -/
def encode (p : Params) (i : Instr) : Option Nat := (i.cmd p).map (encodeCmd p)

/-- The instruction reads or writes the register window (`RD.*`, `WR.*`): the bus master issues it (R140, R141). -/
def Instr.isAccess : Instr → Bool
  | .clkLen | .clkSwp | .clkEnv | .cycle | .seq | .run | .mix | .hpf | .emit | .reset => false
  | .rdG10 | .wrG10 _ => true
  | .rdG11 | .wrG11 _ => true
  | .rdG12 | .wrG12 _ => true
  | .rdG13 | .wrG13 _ => true
  | .rdG14 | .wrG14 _ => true
  | .rdG20 | .wrG20 _ => true
  | .rdG21 | .wrG21 _ => true
  | .rdG22 | .wrG22 _ => true
  | .rdG23 | .wrG23 _ => true
  | .rdG24 | .wrG24 _ => true
  | .rdG30 | .wrG30 _ => true
  | .rdG31 | .wrG31 _ => true
  | .rdG32 | .wrG32 _ => true
  | .rdG33 | .wrG33 _ => true
  | .rdG34 | .wrG34 _ => true
  | .rdG40 | .wrG40 _ => true
  | .rdG41 | .wrG41 _ => true
  | .rdG42 | .wrG42 _ => true
  | .rdG43 | .wrG43 _ => true
  | .rdG44 | .wrG44 _ => true
  | .rdMvol | .wrMvol _ | .rdMroute | .wrMroute _ | .rdMctrl | .wrMctrl _ => true
  | .rdFill27 | .wrFill27 _ | .rdFill28 _ | .wrFill28 _ _ | .rdW _ | .wrW _ _ => true

/-- The command is a `RD` or a `WR`. -/
def Command.isAccess : Command → Bool
  | .instr i => i.isAccess
  | .rdGen _ _ | .wrGen _ _ _ | .rdNotSelected _ | .wrNotSelected _ _ => true

/-! ### The words of spec/opcode_table.json -/

/-- The instruction a word of the table decodes to. A row of at most 8 bits is an EVT word; of the decoders that fire on
it the last one in the order of R92 is given, which is the one with the most fixed bits (log 26). Any other row
is a CMD word of REF. -/
def decodeTableWord (nbits w : Nat) : Option Instr :=
  if nbits ≤ 8 then
    if w < 8 then (decodeEvt (BitVec.ofNat 3 w)).getLast? else none
  else
    match decode Params.ref w with
    | .ok (.instr i) => some i
    | _ => none

end Sys2Proof
end

