-- ==== Sys2Proof/Machine/RefGen.lean ====
section
/-! DEFINITION. RefGen, the spec's test double of a Channel Generator (spec/44_generator_interface.md Part 3, R190 to
R203). It is no description of any hardware (R190). -/

namespace Sys2Proof.Machine

/-- State of `RefGen_g` (R191). `swCnt` is used by `g = 1` only and `store` by `g = 3` only. -/
structure RefGen where
  r0 : Byte
  r1 : Byte
  r2 : Byte
  r3 : Byte
  active : Bool
  lenMode : Bool
  len : BitVec 8
  vol : BitVec 4
  envCnt : BitVec 3
  freq : BitVec 11
  swCnt : BitVec 3
  smp : BitVec 4
  store : List Byte
deriving DecidableEq, Repr

/-- `power()` (R193): all zero, and the storage of `g = 3` becomes WAVE_INIT. -/
def refPower (wave : List Byte) (g : GenId) : RefGen where
  r0 := 0
  r1 := 0
  r2 := 0
  r3 := 0
  active := false
  lenMode := false
  len := 0
  vol := 0
  envCnt := 0
  freq := 0
  swCnt := 0
  smp := 0
  store := if g = .g3 then wave else []

/-- The generators with an enable register at offset 0: wavetable and noise (R191, R192). -/
def hasDac (g : GenId) : Bool := g == .g3 || g == .g4

/-- Offset 4 as read: `{1, len_mode, 0b111, freq[10:8]}` (R194). -/
def refCtl (r : RefGen) : Byte := 1#1 ++ BitVec.ofBool r.lenMode ++ 7#3 ++ r.freq.extractLsb' 8 3

/-- `read(off)` (R194); an offset above 4 is outside the layout (log 17). -/
def refRead (g : GenId) (r : RefGen) (off : Nat) : Byte :=
  match off with
  | 0 => if g = .g2 then 0xFF else r.r0
  | 1 => r.r1
  | 2 => r.r2
  | 3 => r.freq.extractLsb' 0 8
  | 4 => refCtl r
  | _ => Config.refReadBeyond g off

/-- `TRIGGER` (R196). -/
def refTrigger (g : GenId) (r : RefGen) : RefGen :=
  { r with
    len := r.r1
    vol := r.r2.extractLsb' 4 4
    envCnt := r.r2.extractLsb' 0 3
    swCnt := if g = .g1 then r.r0.extractLsb' 4 3 else r.swCnt
    active := if hasDac g then r.r0.getLsbD 7 else true }

/-- `write(0, v)` (R195). -/
def refWrite0 (g : GenId) (r : RefGen) (v : Byte) : RefGen :=
  if g = .g2 then r
  else { r with r0 := v, active := if hasDac g && !v.getLsbD 7 then false else r.active }

/-- `write(4, v)` (R195): `len_mode` and `freq[10:8]`, then TRIGGER if bit 7 is set. -/
def refWrite4 (g : GenId) (r : RefGen) (v : Byte) : RefGen :=
  let r' := { r with lenMode := v.getLsbD 6, freq := v.extractLsb' 0 3 ++ r.freq.extractLsb' 0 8 }
  if v.getLsbD 7 then refTrigger g r' else r'

/-- `write(off, v)` (R195); an offset above 4 holds no register and the write is accepted without effect (log 17). -/
def refWrite (g : GenId) (r : RefGen) (off : Nat) (v : Byte) : RefGen :=
  match off with
  | 0 => refWrite0 g r v
  | 1 => { r with r1 := v }
  | 2 => { r with r2 := v }
  | 3 => { r with r3 := v, freq := r.freq.extractLsb' 8 3 ++ v }
  | 4 => refWrite4 g r v
  | _ => r

/-- `run()` (R197): an active generator presents its volume. -/
def refRun (r : RefGen) : RefGen := { r with smp := if r.active then r.vol else 0 }

/-- `clockLength()` (R198). -/
def refClockLength (r : RefGen) : RefGen :=
  if r.active && r.len != 0 then
    { r with
      len := r.len - 1
      active := if r.len - 1 == 0 && r.lenMode then false else r.active }
  else r

/-- The volume step of an envelope (R181, R199 lines 6 and 7): toward 15 or toward 0, clamped. -/
def volumeStep (up : Bool) (v : BitVec 4) : BitVec 4 :=
  if up then (if v < 15 then v + 1 else v) else (if 0 < v then v - 1 else v)

/-- The volume step of RefGen: up if `r2[3]` is set (R199). -/
def refVolumeStep (r : RefGen) : BitVec 4 := volumeStep (r.r2.getLsbD 3) r.vol

/-- `clockEnvelope()` (R199). -/
def refClockEnvelope (r : RefGen) : RefGen :=
  let p : BitVec 3 := r.r2.extractLsb' 0 3
  let c := if 0 < r.envCnt then r.envCnt - 1 else r.envCnt
  if p = 0 then r
  else if c = 0 then { r with envCnt := p, vol := refVolumeStep r }
  else { r with envCnt := c }

/-- The 11-bit frequency of an allowed sweep step up; a sum above 11 bits is possible only if `FREQ_MAX` is above 2047
and is then a free value (log 18). -/
def sweepFreq (sum : Nat) : BitVec 11 :=
  if sum ≤ 2047 then BitVec.ofNat 11 sum else Config.sweepBeyond sum

/-- R200 lines 6 to 9: the frequency goes down, or up unless it would exceed `FREQ_MAX`, which disables the channel. -/
def refSweepStep (freqMax : Nat) (r : RefGen) : RefGen :=
  let delta : BitVec 11 := r.freq >>> (r.r0.extractLsb' 0 3).toNat
  let sum := r.freq.toNat + delta.toNat
  if r.r0.getLsbD 3 then { r with freq := r.freq - delta }
  else if freqMax < sum then { r with active := false }
  else { r with freq := sweepFreq sum }

/-- `clockSweep()` of `RefGen_1` (R200). -/
def refClockSweep (freqMax : Nat) (r : RefGen) : RefGen :=
  let p : BitVec 3 := r.r0.extractLsb' 4 3
  let c := if 0 < r.swCnt then r.swCnt - 1 else r.swCnt
  if r.active && p != 0 then
    if c = 0 then refSweepStep freqMax { r with swCnt := p } else { r with swCnt := c }
  else r

/-- Byte `i` of a raw sample storage (R178); an index outside RNG_W has no byte (log 19). -/
def storeRead (store : List Byte) (i : Nat) : Byte :=
  match store[i]? with
  | some v => v
  | none => Config.storageBeyond i

/-- `readStorage(i)` of `RefGen_3` (R201). -/
def refReadStorage (r : RefGen) (i : Nat) : Byte := storeRead r.store i

/-- `writeStorage(i, v)` of `RefGen_3` (R201). -/
def refWriteStorage (r : RefGen) (i : Nat) (v : Byte) : RefGen := { r with store := r.store.set i v }

end Sys2Proof.Machine
end

