-- ==== Sys2Proof/Machine/Contract.lean ====
section
/-! DEFINITION. A Channel Generator of unknown inside: the contract fields of spec/44_generator_interface.md R173 under
the contract R172 to R185, and a free value for all that the contract leaves open (R186; log 4, log 27). -/

namespace Sys2Proof.Machine

/-- State of a generator of unknown inside (R173). -/
structure ContractGen where
  /-- The enable flag. -/
  active : Bool
  /-- The length, envelope and sweep fields. -/
  ctl : GenControl
  /-- The state of the enable register (g = 3, 4). -/
  dac : Bool
  /-- The sample of the last `run()` (R175). -/
  smp : Nat
  /-- The calls since `power()` that had an effect, newest first: with the parameters, all that the opaque `wave` can depend
  on (R185). -/
  wave : List GenOp
  /-- The last byte written to each offset of the block, 0 before the first write (R172). -/
  regs : List Byte
  /-- The offsets written since the last cycle, newest first (R184). -/
  fresh : List Nat
  /-- The raw sample storage (g = 3; R178); only `writeStorage` and `power` change it (log 30). -/
  store : List Byte
deriving DecidableEq, Repr

/-- All contract fields zero. -/
def zeroControl : GenControl where
  len := 0
  lenMode := false
  vol := 0
  envCnt := 0
  envUp := false
  freq := 0
  swCnt := 0
  swDown := false
  swShift := 0

/-- `power()` (R172): zero, disabled, sample 0, and the storage of generator 3 is WAVE_INIT. -/
def contractPower (p : Params) (g : GenId) : ContractGen where
  active := false
  ctl := zeroControl
  dac := false
  smp := 0
  wave := []
  regs := List.replicate (rangeSize (genRange p g)) 0
  fresh := []
  store := if g = .g3 then p.waveInit else []

/-- A call of a cycle that has an effect is recorded, and the last writes need no longer be read back (R184). -/
def touch (op : GenOp) (c : ContractGen) : ContractGen := { c with wave := op :: c.wave, fresh := [] }

/-- `run()` (R174): the waveform and the sample change and no contract field does; a disabled generator is silent (R179). -/
def contractRun (p : Params) (g : GenId) (c : ContractGen) : ContractGen :=
  { touch .run c with smp := if c.active then Config.genSample p g (.run :: c.wave) else 0 }

/-- `clockLength()` of an enabled generator whose counter is above 0 (R180): it decrements, and at 0 in length-limited mode
the generator is disabled. -/
def lengthDown (c : ContractGen) : ContractGen :=
  { touch .clockLength c with
    ctl := { c.ctl with len := c.ctl.len - 1 }
    active := !(c.ctl.len - 1 == 0 && c.ctl.lenMode) }

/-- `clockLength()` of an enabled generator whose counter is 0 already: the counter is free, and only a length-limited
generator may be disabled. -/
def lengthAtZero (p : Params) (g : GenId) (c : ContractGen) : ContractGen :=
  let h : List GenOp := .clockLength :: c.wave
  { touch .clockLength c with
    ctl := { c.ctl with len := Config.genLenAtZero p g h }
    active := !c.ctl.lenMode || Config.genActiveAtZero p g h }

/-- `clockLength()` (R180): a disabled generator ignores the call (R93). -/
def contractClockLength (p : Params) (g : GenId) (c : ContractGen) : ContractGen :=
  if c.active then (if 0 < c.ctl.len then lengthDown c else lengthAtZero p g c) else c

/-- `clockEnvelope()` (R181), g = 1, 2, 4: on expiry the volume steps and clamps. -/
def contractClockEnvelope (p : Params) (g : GenId) (c : ContractGen) : ContractGen :=
  let h : List GenOp := .clockEnvelope :: c.wave
  { touch .clockEnvelope c with
    ctl := { c.ctl with
      envCnt := Config.genEnvCount p g h c.ctl
      vol := if Config.genEnvExpires p g h c.ctl then volumeStep c.ctl.envUp c.ctl.vol else c.ctl.vol } }

/-- The frequency after a sweep clock that computed the frequencies `fs` (R182). -/
def sweptFreq (p : Params) (h : List GenOp) (ctl : GenControl) : List Nat → Nat
  | [] => ctl.freq
  | f :: _ => if f ≤ p.freqMax then f else Config.genSweepOverflow p h ctl

/-- `clockSweep()` (R182), g = 1: a computed frequency above `FREQ_MAX` disables the generator. -/
def contractClockSweep (p : Params) (c : ContractGen) : ContractGen :=
  let h : List GenOp := .clockSweep :: c.wave
  let fs := Config.genSweepComputed p h c.ctl
  { touch .clockSweep c with
    ctl := { c.ctl with swCnt := Config.genSweepCount p h c.ctl, freq := sweptFreq p h c.ctl fs }
    active := c.active && fs.all (fun f => f ≤ p.freqMax) }

/-- The write sets the trigger bit (R183). -/
def isTrigger (p : Params) (g : GenId) (off : Nat) (v : Byte) : Bool :=
  off == (Config.genTrigger p g).1 && v.getLsbD (Config.genTrigger p g).2.val

/-- The contract fields after a trigger (R183): the length, the envelope counter and volume and, for g = 1, the sweep counter
hold their programmed initial values. -/
def triggered (g : GenId) (loads ctl : GenControl) : GenControl :=
  { ctl with
    len := loads.len
    vol := loads.vol
    envCnt := loads.envCnt
    swCnt := if g = .g1 then loads.swCnt else ctl.swCnt }

/-- The state of the enable register after a write (R173 `dac`). -/
def dacAfter (p : Params) (g : GenId) (off : Nat) (v : Byte) (dac : Bool) : Bool :=
  if off = Config.genEnableOffset p g then Config.genEnables p g v else dac

/-- The enable register allows the generator to be enabled; generators 1 and 2 have none. -/
def mayBeActive (g : GenId) (dac : Bool) : Bool := !hasDac g || dac

/-- `write(off, v)` (R177). A trigger reactivates the generator unless its enable register is off (R183). Any other write
cannot enable it (R179), disables it if the enable register is off, and may disable it. DESIGN CHOICE (log 30, unsafe): no
register write changes the raw sample storage, where R58 leaves it open. -/
def contractWrite (p : Params) (g : GenId) (off : Nat) (v : Byte) (c : ContractGen) : ContractGen :=
  let h : List GenOp := .write off v :: c.wave
  let regs := c.regs.set off v
  let dac := dacAfter p g off v c.dac
  let ctl := Config.genWritten p g h c.ctl
  { c with
    active :=
      if isTrigger p g off v then mayBeActive g dac
      else c.active && (Config.genStaysActive p g h && mayBeActive g dac)
    ctl := if isTrigger p g off v then triggered g (Config.genLoads p g regs) ctl else ctl
    dac := dac
    wave := h
    regs := regs
    fresh := off :: c.fresh.erase off }

/-- `read(off)` (R176): a register with no write-only bit that was written since the last cycle returns what was written
(R184), every other read is free. -/
def contractRead (p : Params) (g : GenId) (off : Nat) (c : ContractGen) : Byte :=
  if Config.genPlain p g off && c.fresh.contains off then
    match c.regs[off]? with
    | some v => v
    | none => Config.genRead p g c.wave off
  else Config.genRead p g c.wave off

/-- `writeStorage(i, v)` (R178), g = 3. -/
def contractWriteStorage (i : Nat) (v : Byte) (c : ContractGen) : ContractGen :=
  { c with store := c.store.set i v, wave := .writeStorage i v :: c.wave }

end Sys2Proof.Machine
end

