-- ==== Sys2Proof/Machine/Generator.lean ====
section
/-! DEFINITION. The Channel Generator boundary (spec/44_generator_interface.md Parts 1 and 2, R170 to R186): what the
block may call on a generator, for the test double RefGen and for a generator of which only the contract is known. -/

namespace Sys2Proof.Machine

/-- State of one generator, `GenState_g` (spec/10_state.md R32). -/
inductive GenState where
  | refGen (r : RefGen)
  | unknown (c : ContractGen)
deriving DecidableEq, Repr

/-- `power()` (R172): the generator keeps its implementation and takes its power-on state. -/
def genPower (p : Params) (g : GenId) : GenState → GenState
  | .refGen _ => .refGen (refPower p.waveInit g)
  | .unknown _ => .unknown (contractPower p g)

/-- RefGen's answer to a call. A call its generator does not have (R171) is never made by the block and changes nothing. -/
def refApply (p : Params) (g : GenId) (op : GenOp) (r : RefGen) : RefGen :=
  match op with
  | .power => refPower p.waveInit g
  | .run => refRun r
  | .clockLength => refClockLength r
  | .clockEnvelope => if g = .g3 then r else refClockEnvelope r
  | .clockSweep => if g = .g1 then refClockSweep p.freqMax r else r
  | .write off v => refWrite g r off v
  | .writeStorage i v => if g = .g3 then refWriteStorage r i v else r
  | .sample | .read _ | .readStorage _ => r

/-- The answer of a generator of unknown inside to a call: `sample`, `read` and `readStorage` have no side effect (R175,
R176, R57). -/
def contractApply (p : Params) (g : GenId) (op : GenOp) (c : ContractGen) : ContractGen :=
  match op with
  | .power => contractPower p g
  | .run => contractRun p g c
  | .clockLength => contractClockLength p g c
  | .clockEnvelope => if g = .g3 then c else contractClockEnvelope p g c
  | .clockSweep => if g = .g1 then contractClockSweep p c else c
  | .write off v => contractWrite p g off v c
  | .writeStorage i v => if g = .g3 then contractWriteStorage i v c else c
  | .sample | .read _ | .readStorage _ => c

/-- The state of generator `g` after one call (R171). -/
def genApply (p : Params) (g : GenId) (op : GenOp) : GenState → GenState
  | .refGen r => .refGen (refApply p g op r)
  | .unknown c => .unknown (contractApply p g op c)

/-- `sample()` (R175), in `[0, GEN_SAMPLE_MAX]` for a generator of unknown inside. -/
def genSample (p : Params) : GenState → Nat
  | .refGen r => r.smp.toNat
  | .unknown c => min p.genSampleMax c.smp

/-- `read(off)` (R176). -/
def genRead (p : Params) (g : GenId) (off : Nat) : GenState → Byte
  | .refGen r => refRead g r off
  | .unknown c => contractRead p g off c

/-- `readStorage(i)` (R178). -/
def genReadStorage (i : Nat) : GenState → Byte
  | .refGen r => refReadStorage r i
  | .unknown c => storeRead c.store i

/-- The generator meets the contract's bound on samples under `p` (R7: `Gen_g` meets R170 to R186; R175): RefGen's samples
reach 15 (R191; log 23). -/
def genFits (p : Params) : GenState → Bool
  | .refGen _ => 15 ≤ p.genSampleMax
  | .unknown _ => true

end Sys2Proof.Machine
end

