-- ==== Sys2Proof/Machine/State.lean ====
section
/-! DEFINITION. The state of the machine (spec/10_state.md R21), its parameters, the observation (spec/00_scope.md R15),
the host's moves, the reasons to stop, and the state after reset (spec/70_reset_and_hazards.md R260, R261). -/

namespace Sys2Proof.Machine

/-- The synchronization mode flag (spec/10_state.md R35). -/
inductive SyncMode where
  | normal
  | all
deriving DecidableEq, Repr

/-- Where the adapter's loop goes on (R34). -/
inductive ResumePt where
  | atTop
  | afterSyncCheck
deriving DecidableEq, Repr

/-- The reasons of `suspend` (spec/46_scheduler_adapter.md R222). -/
inductive Suspension where
  | syncEvent
  | toCPU
deriving DecidableEq, Repr

/-- One value per output channel, in flight inside a `CYCLE` (R31; log 6). -/
structure Triple where
  l : Int
  r : Int
  c : Int
deriving DecidableEq, Repr

/-- One delivered sample pair (spec/45_cycle.md R212); the centre value stands beside it if `HAS_CENTER` (R113). -/
structure Sample where
  l : Int
  r : Int
  c : Option Int
deriving DecidableEq, Repr

/-- One event of the generator-call trace (R170). -/
structure GenCall where
  g : GenId
  op : GenOp
deriving DecidableEq, Repr

/-- A move that a host makes, against the rules, inside a `RESUME` or a `CYCLE` (spec/60_exceptions.md R241, R242; log 12). -/
inductive Intrusion where
  | rd (a : Nat)
  | wr (a : Nat) (d : Byte)
  | grant (n : Nat)
  | sync (m : SyncMode)
  | resume
deriving DecidableEq, Repr

/-- One move of the host: a command word (spec/30_encoding.md R71), a host move that has no word (R85), or a move that
breaks the host's rules. -/
inductive HostMove where
  | cmd (w : Nat)
  | resume
  | grant (n : Nat)
  | sync (m : SyncMode)
  | intrude (m : Intrusion)
deriving DecidableEq, Repr

/-- The causes of `HostInvariantViolation` (R241). -/
inductive HostCause where
  /-- `RESUME` while `suspended` is false. -/
  | resumeOfRunningContext
  /-- `RD`, `WR`, `GRANT` or `SYNC` while `suspended` is false. -/
  | accessDuringCycle
deriving DecidableEq, Repr

/-- Why the machine stops. -/
inductive Fault where
  /-- The one fault of the spec (R241), raised by the host moves and the bus accesses, never by an operation of the block
  (R240). Terminal: no later step is defined, unless the host's next move is `RESET` (R260;
  log 25). Safe: it is the spec's own outcome. -/
  | hostInvariantViolation (c : HostCause)
deriving DecidableEq, Repr

/-- Why a step has no meaning. -/
inductive Refusal where
  /-- Raised by `exec` for an instruction that has no meaning yet. Safe. No arm uses it. -/
  | notModelled (mnemonic : String)
  /-- Raised by `step` before anything else when the parameter set breaks R7, R8 or R116 (R241: "refused before any
  step"). Safe. -/
  | illFormedParameters
  /-- Raised by `step` when a number given as a command word has more bits than the format CMD (R71; log 10). Safe. -/
  | notACommandWord
deriving DecidableEq, Repr

/-- The state: the block, the generators and the adapter (R21), the parameters (R7; log 1), the observation (R15) and
the model's own fields `mixed`, `filtered` (log 6), `hostFault` (log 25) and `pending` (log 8). -/
structure State where
  /-- The implementation parameters; no step writes them. -/
  par : Params
  /-- R22. -/
  stage : Nat
  /-- R23. -/
  phase : BitVec 3
  /-- R26. -/
  menable : Bool
  /-- R27. -/
  mvol : Byte
  /-- R28. -/
  mroute : Byte
  /-- R30. -/
  biasL : Int
  /-- R30. -/
  biasR : Int
  /-- R30; read and written only if `HAS_CENTER` (log 20). -/
  biasC : Int
  /-- R32. -/
  gen1 : GenState
  gen2 : GenState
  gen3 : GenState
  gen4 : GenState
  /-- R34. -/
  clock : Int
  /-- R34. -/
  resumePt : ResumePt
  /-- R34. -/
  suspended : Bool
  /-- R35. -/
  sync : SyncMode
  /-- `(mixL, mixR, mixC)` between `MIX` and `HPF` of one cycle. -/
  mixed : Triple
  /-- `(outL, outR, outC)` between `HPF` and `EMIT` of one cycle. -/
  filtered : Triple
  /-- The output stream, oldest first (R14). -/
  samples : List Sample
  /-- The results of the `RD` operations, oldest first; `none` is `NotSelected` (R142). -/
  readLog : List (Option Byte)
  /-- The generator-call trace, oldest first (R170). -/
  trace : List GenCall
  /-- The suspensions of the adapter, oldest first (R222; log 15). -/
  exits : List Suspension
  /-- The cause of a host fault that the host's `RESET` follows, until that `RESET` (R241, R260; log 25). -/
  hostFault : Option HostCause
  /-- What the host does next, first move first (R84). -/
  pending : List HostMove
deriving DecidableEq, Repr

/-- The machine right after power-on (R260, R261) under REF, its generators RefGen (R7; log 1, log 5). -/
def State.reset : State where
  par := Params.ref
  stage := 0
  phase := 0
  menable := false
  mvol := 0
  mroute := 0
  biasL := 0
  biasR := 0
  biasC := 0
  gen1 := .refGen (refPower Params.ref.waveInit .g1)
  gen2 := .refGen (refPower Params.ref.waveInit .g2)
  gen3 := .refGen (refPower Params.ref.waveInit .g3)
  gen4 := .refGen (refPower Params.ref.waveInit .g4)
  clock := 0
  resumePt := .atTop
  suspended := true
  sync := .normal
  mixed := ⟨0, 0, 0⟩
  filtered := ⟨0, 0, 0⟩
  samples := []
  readLog := []
  trace := []
  exits := []
  hostFault := none
  pending := []

end Sys2Proof.Machine
end

