-- ==== Sys2Proof/Machine/Flags.lean ====
section
/-! DEFINITION. The block has no condition codes and no arithmetic flags, and no saturation is recorded
(spec/10_state.md R25). Its one flag is `menable` (R26) with the gate that reads it (spec/43_register_dispatcher.md R143). -/

namespace Sys2Proof.Machine

/-- `A_MCTRL` as read: `{menable, 0b1111111}` (R152). -/
def mctrlByte (s : State) : Byte := BitVec.ofBool s.menable ++ 0x7F#7

/-- `menable <- d[7]`; bits 6 to 0 are ignored and nothing else changes (R153). -/
def setMenable (d : Byte) (s : State) : State := { s with menable := d.getLsbD 7 }

/-- The gate (R143): with `menable = 0` the write is discarded and leaves no trace. -/
def gated (write : State → State) (s : State) : State := if s.menable then write s else s

end Sys2Proof.Machine
end

