-- ==== Sys2Proof/Machine/Ops.lean ====
section
/-! DEFINITION. The shared operations: calls on a generator with their trace (spec/44_generator_interface.md R170), the
accesses to the register window (spec/43_register_dispatcher.md R140 to R157), and the one fault (spec/60_exceptions.md
R241). The block has no trap entry and no return from trap (R245, R246), so there is no such operation. -/

namespace Sys2Proof.Machine

/-- The state of generator `g` (R12). -/
def getGen (g : GenId) (s : State) : GenState :=
  match g with
  | .g1 => s.gen1
  | .g2 => s.gen2
  | .g3 => s.gen3
  | .g4 => s.gen4

/-- Replaces the state of generator `g`. -/
def setGen (g : GenId) (x : GenState) (s : State) : State :=
  match g with
  | .g1 => { s with gen1 := x }
  | .g2 => { s with gen2 := x }
  | .g3 => { s with gen3 := x }
  | .g4 => { s with gen4 := x }

/-- Appends one event to the generator-call trace (R170). -/
def logCall (g : GenId) (op : GenOp) (s : State) : State := { s with trace := s.trace ++ [⟨g, op⟩] }

/-- `call Gen_g.op(args)` (R14): the generator takes the call and the trace records it. -/
def callGen (g : GenId) (op : GenOp) (s : State) : State :=
  logCall g op (setGen g (genApply s.par g op (getGen g s)) s)

/-- The same call on several generators, in the order given. -/
def callAll (gs : List GenId) (op : GenOp) (s : State) : State := gs.foldl (fun s g => callGen g op s) s

/-- The result of a `RD`: 8 bits, or `none` for `NotSelected` (R140, R142). -/
def respond (v : Option Byte) (s : State) : State := { s with readLog := s.readLog ++ [v] }

/-- What generator `g` returns for a read of offset `off` (R146). -/
def genByte (g : GenId) (off : Nat) (s : State) : Byte := genRead s.par g off (getGen g s)

/-- Byte `i` of the extended block (R154). -/
def storageByte (i : Nat) (s : State) : Byte := genReadStorage i s.gen3

/-- `RD.Gg` (R146): the call is traced and its value returned. -/
def readGenerator (g : GenId) (off : Nat) (s : State) : State :=
  respond (some (genByte g off s)) (logCall g (.read off) s)

/-- `WR.Gg` (R147), gated (R143). -/
def writeGenerator (g : GenId) (off : Nat) (d : Byte) (s : State) : State := gated (callGen g (.write off d)) s

/-- `RD.W` (R154). -/
def readStorage (i : Nat) (s : State) : State :=
  respond (some (storageByte i s)) (logCall .g3 (.readStorage i) s)

/-- `WR.W` (R155), gated. -/
def writeStorage (i : Nat) (d : Byte) (s : State) : State := gated (callGen .g3 (.writeStorage i d)) s

/-- The all-ones fill value (R9, R156). -/
def fillByte : Byte := 0xFF

/-- The value a `RD` at address `a` returns (R140), `none` for `NotSelected`: the model's read of one byte of the window. -/
def peek (a : Nat) (s : State) : Option Byte :=
  match route s.par a with
  | .notSelected => none
  | .gen g off => some (genByte g off s)
  | .mvol => some s.mvol
  | .mroute => some s.mroute
  | .mctrl => some (mctrlByte s)
  | .storage i => some (storageByte i s)
  | .fill => some fillByte

/-- The outcome of every operation of the block: it completes (R240). -/
def done (s : State) : Host.Outcome State Fault Refusal := .next s

/-- The word is a `RESET` command (R71). -/
def isResetWord (p : Params) (w : Nat) : Bool :=
  match decode p w with
  | .ok (.instr .reset) => true
  | .ok _ => false
  | .error _ => false

/-- The host's next move is a `RESET` command. -/
def resetNext (s : State) : Bool :=
  match s.pending with
  | .cmd w :: _ => isResetWord s.par w
  | [] | .resume :: _ | .grant _ :: _ | .sync _ :: _ | .intrude _ :: _ => false

/-- After `HostInvariantViolation(cause)` no later step is defined (R241), except that the host may issue `RESET` (R260).
So the machine goes on, as `go` says, if `RESET` is the host's next move, and else the outcome is the fault (log 25). -/
def orTerminal (c : HostCause) (go : State → Host.Outcome State Fault Refusal) (s : State) :
    Host.Outcome State Fault Refusal :=
  if resetNext s then go s else .fault (.hostInvariantViolation c)

/-- `raise HostInvariantViolation(cause)` (R241): it records only the cause, in the outcome or, if a `RESET` follows, in the
state for that one step (R260; log 25). -/
def hostViolation (c : HostCause) (s : State) : Host.Outcome State Fault Refusal :=
  orTerminal c (fun s => done { s with hostFault := some c }) s

end Sys2Proof.Machine
end

