-- ==== Sys2Proof/Machine/Filter.lean ====
section
/-! DEFINITION. The DC-Blocking Filter (spec/42_dc_filter.md): `HPF`, in exact integer arithmetic (R129). -/

namespace Sys2Proof.Machine

/-- R126 line 1: `d = (s << SHIFT_A) - (bias >> SHIFT_A)`. -/
def hpfDiff (p : Params) (bias s : Int) : Int := shl s p.shiftA - shr bias p.shiftA

/-- R126 line 2: the accumulator after the step; the product is formed before the right shift. -/
def hpfBias (p : Params) (bias s : Int) : Int := bias + shr (hpfDiff p bias s * (p.k : Int)) p.shiftA

/-- R126 line 3: the filtered sample, from the new accumulator. -/
def hpfOut (p : Params) (bias s : Int) : Int := clamp16 (s - shr (hpfBias p bias s) p.shiftB)

/-- `HPF` on the channels L and R, and on C if `HAS_CENTER` (R210 lines 4 and 5, R134). The operands are the values in
flight from `MIX`, which are consumed; the results are in flight until `EMIT` (R31; log 6). -/
def hpfStep (s : State) : State :=
  { s with
    biasL := hpfBias s.par s.biasL s.mixed.l
    biasR := hpfBias s.par s.biasR s.mixed.r
    biasC := if s.par.hasCenter then hpfBias s.par s.biasC s.mixed.c else s.biasC
    filtered :=
      { l := hpfOut s.par s.biasL s.mixed.l
        r := hpfOut s.par s.biasR s.mixed.r
        c := if s.par.hasCenter then hpfOut s.par s.biasC s.mixed.c else 0 }
    mixed := ⟨0, 0, 0⟩ }

/-- Meaning of `HPF`. -/
def execHpf (s : State) : Host.Outcome State Fault Refusal := done (hpfStep s)

end Sys2Proof.Machine
end

