-- ==== Sys2Proof/Machine/Mixer.lean ====
section
/-! DEFINITION. The Mixer (spec/41_mixer.md): `MIX`. It reads `mroute`, `mvol` and the four samples, and not `menable`
(R114). -/

namespace Sys2Proof.Machine

/-- `smp[g] = Gen_g.sample()` (R111). -/
def smp (s : State) (g : GenId) : Int := (genSample s.par (getGen g s) : Int)

/-- Sum of the samples of the generators that a channel's enable bits select (R111 lines 1 and 2). -/
def sumEnabled (en : GenId → Bool) (x : GenId → Int) : Int :=
  (if en .g1 then x .g1 else 0) + (if en .g2 then x .g2 else 0) + (if en .g3 then x .g3 else 0)
    + (if en .g4 then x .g4 else 0)

/-- R111 lines 1 to 6: the mix of the samples `x` under the parameters and the two master registers. -/
def mixOf (p : Params) (mroute mvol : Byte) (x : GenId → Int) : Triple where
  l := volScale p.volScale (sumEnabled (enL mroute) x) (volL mvol)
  r := volScale p.volScale (sumEnabled (enR mroute) x) (volR mvol)
  c := if p.hasCenter then centerScale p.centerScale (x .g1 + x .g2 + x .g3 + x .g4) else 0

/-- The four `sample()` calls of `MIX` in the trace (R215; log 14). -/
def logSamples (s : State) : State := [GenId.g1, .g2, .g3, .g4].foldl (fun s g => logCall g .sample s) s

/-- `MIX` (R111): its result is in flight until `HPF` (R31; log 6). -/
def mixStep (s : State) : State :=
  { logSamples s with mixed := mixOf s.par s.mroute s.mvol (smp s) }

/-- Meaning of `MIX`. -/
def execMix (s : State) : Host.Outcome State Fault Refusal := done (mixStep s)

end Sys2Proof.Machine
end

