-- ==== Sys2Proof/Machine/Sequencer.lean ====
section
/-! DEFINITION. The Frame Sequencer (spec/40_frame_sequencer.md): `CLK_LEN`, `CLK_SWP`, `CLK_ENV`, `SEQ`. -/

namespace Sys2Proof.Machine

/-- `CLK_LEN` (R93): `clockLength` on all four generators, in order. -/
def clkLen (s : State) : State := callAll [.g1, .g2, .g3, .g4] .clockLength s

/-- `CLK_SWP` (R94): `clockSweep` on generator 1 only. -/
def clkSwp (s : State) : State := callGen .g1 .clockSweep s

/-- `CLK_ENV` (R95): `clockEnvelope` on generators 1, 2, 4, in order. -/
def clkEnv (s : State) : State := callAll [.g1, .g2, .g4] .clockEnvelope s

/-- `DECODE_AND_DISPATCH` (R92). Lines 2 to 4 decode the value of `phase` before the step. -/
def decodeAndDispatch (s : State) : State :=
  let p := s.phase
  let s := if firesLen p then clkLen s else s
  let s := if firesSwp p then clkSwp s else s
  let s := if firesEnv p then clkEnv s else s
  { s with phase := p + 1 }

/-- `SEQ` (R91): the clock divider, and the dispatch in a tick. -/
def seqStep (s : State) : State :=
  let tick := s.stage = 0
  let s := { s with stage := (s.stage + 1) % s.par.seqDiv }
  if tick then decodeAndDispatch s else s

/-- Meaning of `CLK_LEN`. -/
def execClkLen (s : State) : Host.Outcome State Fault Refusal := done (clkLen s)

/-- Meaning of `CLK_SWP`. -/
def execClkSwp (s : State) : Host.Outcome State Fault Refusal := done (clkSwp s)

/-- Meaning of `CLK_ENV`. -/
def execClkEnv (s : State) : Host.Outcome State Fault Refusal := done (clkEnv s)

/-- Meaning of `SEQ`. -/
def execSeq (s : State) : Host.Outcome State Fault Refusal := done (seqStep s)

end Sys2Proof.Machine
end

