-- ==== Sys2Proof/Machine/Cycle.lean ====
section
/-! DEFINITION. One subsystem cycle (spec/45_cycle.md): `RUN`, `EMIT`, `CYCLE`. -/

namespace Sys2Proof.Machine

/-- `RUN` (R211): every generator runs once, in order. -/
def runStep (s : State) : State := callAll [.g1, .g2, .g3, .g4] .run s

/-- `EMIT` (R212): the pair is appended to the output stream and not kept; the centre value stands beside it if
`HAS_CENTER` (R113). -/
def emitStep (s : State) : State :=
  { s with
    samples := s.samples ++ [⟨s.filtered.l, s.filtered.r, if s.par.hasCenter then some s.filtered.c else none⟩]
    filtered := ⟨0, 0, 0⟩ }

/-- `CYCLE` (R210): the five sub-operations in order, as one atomic operation (spec/20_memory.md R61). -/
def cycleStep (s : State) : State := emitStep (hpfStep (mixStep (runStep (seqStep s))))

/-- Meaning of `RUN`. -/
def execRun (s : State) : Host.Outcome State Fault Refusal := done (runStep s)

/-- Meaning of `EMIT`. -/
def execEmit (s : State) : Host.Outcome State Fault Refusal := done (emitStep s)

/-- Meaning of `CYCLE`. -/
def execCycle (s : State) : Host.Outcome State Fault Refusal := done (cycleStep s)

end Sys2Proof.Machine
end

