-- ==== Sys2Proof/Machine/Adapter.lean ====
section
/-! DEFINITION. The Cooperative Scheduler Adapter, the host side of the cycle loop (spec/46_scheduler_adapter.md):
`RESUME`, `GRANT`, `SYNC`. -/

namespace Sys2Proof.Machine

/-- `suspended <- true; suspend(reason)` (R221 lines 4 and 9): the state of the block is left as it is (R222). -/
def suspendWith (e : Suspension) (s : State) : State := { s with suspended := true, exits := s.exits ++ [e] }

/-- One iteration of the loop of R221, lines 3 to 9; it has suspended iff `suspended` is true after it. -/
def adapterIteration (s : State) : State :=
  if s.resumePt = .atTop ∧ s.sync = .all then
    suspendWith .syncEvent { s with resumePt := .afterSyncCheck }
  else
    let t := cycleStep { s with resumePt := .atTop }
    let t := { t with clock := t.clock + (t.par.clkStep : Int) }
    if 0 ≤ t.clock ∧ t.sync ≠ .all then suspendWith .toCPU t else t

/-- The loop of R221, at most `n` iterations. -/
def adapterLoop : Nat → State → State
  | 0, s => s
  | n + 1, s =>
    let t := adapterIteration s
    if t.suspended then t else adapterLoop n t

/-- A number of iterations in which the loop always suspends, since CLK_STEP is at least 1 (R226). -/
def resumeFuel (s : State) : Nat := (-s.clock).toNat + 2

/-- `RESUME` (R221), atomic (R228). -/
def resume (s : State) : Host.Outcome State Fault Refusal :=
  if s.suspended then done (adapterLoop (resumeFuel s) { s with suspended := false })
  else hostViolation .resumeOfRunningContext s

/-- `GRANT n` (R224): allowed only while `suspended` is true. -/
def grant (n : Nat) (s : State) : Host.Outcome State Fault Refusal :=
  if s.suspended then done { s with clock := s.clock - (n : Int) } else hostViolation .accessDuringCycle s

/-- `SYNC m` (R225): allowed only while `suspended` is true. -/
def setSync (m : SyncMode) (s : State) : Host.Outcome State Fault Refusal :=
  if s.suspended then done { s with sync := m } else hostViolation .accessDuringCycle s

end Sys2Proof.Machine
end

