-- ==== Sys2Proof/Machine/GeneratorAccess.lean ====
section
/-! DEFINITION. The Register Dispatcher's accesses to the generator blocks and to the extended block, one meaning for
each row (spec/43_register_dispatcher.md R146, R147, R154, R155). Reads are never gated (R140); writes are (R143). -/

namespace Sys2Proof.Machine

/-- Meaning of `RD.G1.0` (R146). -/
def execRdG10 (s : State) : Host.Outcome State Fault Refusal := done (readGenerator .g1 0 s)

/-- Meaning of `WR.G1.0` (R147). -/
def execWrG10 (d : Byte) (s : State) : Host.Outcome State Fault Refusal := done (writeGenerator .g1 0 d s)

/-- Meaning of `RD.G1.1` (R146). -/
def execRdG11 (s : State) : Host.Outcome State Fault Refusal := done (readGenerator .g1 1 s)

/-- Meaning of `WR.G1.1` (R147). -/
def execWrG11 (d : Byte) (s : State) : Host.Outcome State Fault Refusal := done (writeGenerator .g1 1 d s)

/-- Meaning of `RD.G1.2` (R146). -/
def execRdG12 (s : State) : Host.Outcome State Fault Refusal := done (readGenerator .g1 2 s)

/-- Meaning of `WR.G1.2` (R147). -/
def execWrG12 (d : Byte) (s : State) : Host.Outcome State Fault Refusal := done (writeGenerator .g1 2 d s)

/-- Meaning of `RD.G1.3` (R146). -/
def execRdG13 (s : State) : Host.Outcome State Fault Refusal := done (readGenerator .g1 3 s)

/-- Meaning of `WR.G1.3` (R147). -/
def execWrG13 (d : Byte) (s : State) : Host.Outcome State Fault Refusal := done (writeGenerator .g1 3 d s)

/-- Meaning of `RD.G1.4` (R146). -/
def execRdG14 (s : State) : Host.Outcome State Fault Refusal := done (readGenerator .g1 4 s)

/-- Meaning of `WR.G1.4` (R147). -/
def execWrG14 (d : Byte) (s : State) : Host.Outcome State Fault Refusal := done (writeGenerator .g1 4 d s)

/-- Meaning of `RD.G2.0` (R146). -/
def execRdG20 (s : State) : Host.Outcome State Fault Refusal := done (readGenerator .g2 0 s)

/-- Meaning of `WR.G2.0` (R147). -/
def execWrG20 (d : Byte) (s : State) : Host.Outcome State Fault Refusal := done (writeGenerator .g2 0 d s)

/-- Meaning of `RD.G2.1` (R146). -/
def execRdG21 (s : State) : Host.Outcome State Fault Refusal := done (readGenerator .g2 1 s)

/-- Meaning of `WR.G2.1` (R147). -/
def execWrG21 (d : Byte) (s : State) : Host.Outcome State Fault Refusal := done (writeGenerator .g2 1 d s)

/-- Meaning of `RD.G2.2` (R146). -/
def execRdG22 (s : State) : Host.Outcome State Fault Refusal := done (readGenerator .g2 2 s)

/-- Meaning of `WR.G2.2` (R147). -/
def execWrG22 (d : Byte) (s : State) : Host.Outcome State Fault Refusal := done (writeGenerator .g2 2 d s)

/-- Meaning of `RD.G2.3` (R146). -/
def execRdG23 (s : State) : Host.Outcome State Fault Refusal := done (readGenerator .g2 3 s)

/-- Meaning of `WR.G2.3` (R147). -/
def execWrG23 (d : Byte) (s : State) : Host.Outcome State Fault Refusal := done (writeGenerator .g2 3 d s)

/-- Meaning of `RD.G2.4` (R146). -/
def execRdG24 (s : State) : Host.Outcome State Fault Refusal := done (readGenerator .g2 4 s)

/-- Meaning of `WR.G2.4` (R147). -/
def execWrG24 (d : Byte) (s : State) : Host.Outcome State Fault Refusal := done (writeGenerator .g2 4 d s)

/-- Meaning of `RD.G3.0` (R146). -/
def execRdG30 (s : State) : Host.Outcome State Fault Refusal := done (readGenerator .g3 0 s)

/-- Meaning of `WR.G3.0` (R147). -/
def execWrG30 (d : Byte) (s : State) : Host.Outcome State Fault Refusal := done (writeGenerator .g3 0 d s)

/-- Meaning of `RD.G3.1` (R146). -/
def execRdG31 (s : State) : Host.Outcome State Fault Refusal := done (readGenerator .g3 1 s)

/-- Meaning of `WR.G3.1` (R147). -/
def execWrG31 (d : Byte) (s : State) : Host.Outcome State Fault Refusal := done (writeGenerator .g3 1 d s)

/-- Meaning of `RD.G3.2` (R146). -/
def execRdG32 (s : State) : Host.Outcome State Fault Refusal := done (readGenerator .g3 2 s)

/-- Meaning of `WR.G3.2` (R147). -/
def execWrG32 (d : Byte) (s : State) : Host.Outcome State Fault Refusal := done (writeGenerator .g3 2 d s)

/-- Meaning of `RD.G3.3` (R146). -/
def execRdG33 (s : State) : Host.Outcome State Fault Refusal := done (readGenerator .g3 3 s)

/-- Meaning of `WR.G3.3` (R147). -/
def execWrG33 (d : Byte) (s : State) : Host.Outcome State Fault Refusal := done (writeGenerator .g3 3 d s)

/-- Meaning of `RD.G3.4` (R146). -/
def execRdG34 (s : State) : Host.Outcome State Fault Refusal := done (readGenerator .g3 4 s)

/-- Meaning of `WR.G3.4` (R147). -/
def execWrG34 (d : Byte) (s : State) : Host.Outcome State Fault Refusal := done (writeGenerator .g3 4 d s)

/-- Meaning of `RD.G4.0` (R146). -/
def execRdG40 (s : State) : Host.Outcome State Fault Refusal := done (readGenerator .g4 0 s)

/-- Meaning of `WR.G4.0` (R147). -/
def execWrG40 (d : Byte) (s : State) : Host.Outcome State Fault Refusal := done (writeGenerator .g4 0 d s)

/-- Meaning of `RD.G4.1` (R146). -/
def execRdG41 (s : State) : Host.Outcome State Fault Refusal := done (readGenerator .g4 1 s)

/-- Meaning of `WR.G4.1` (R147). -/
def execWrG41 (d : Byte) (s : State) : Host.Outcome State Fault Refusal := done (writeGenerator .g4 1 d s)

/-- Meaning of `RD.G4.2` (R146). -/
def execRdG42 (s : State) : Host.Outcome State Fault Refusal := done (readGenerator .g4 2 s)

/-- Meaning of `WR.G4.2` (R147). -/
def execWrG42 (d : Byte) (s : State) : Host.Outcome State Fault Refusal := done (writeGenerator .g4 2 d s)

/-- Meaning of `RD.G4.3` (R146). -/
def execRdG43 (s : State) : Host.Outcome State Fault Refusal := done (readGenerator .g4 3 s)

/-- Meaning of `WR.G4.3` (R147). -/
def execWrG43 (d : Byte) (s : State) : Host.Outcome State Fault Refusal := done (writeGenerator .g4 3 d s)

/-- Meaning of `RD.G4.4` (R146). -/
def execRdG44 (s : State) : Host.Outcome State Fault Refusal := done (readGenerator .g4 4 s)

/-- Meaning of `WR.G4.4` (R147). -/
def execWrG44 (d : Byte) (s : State) : Host.Outcome State Fault Refusal := done (writeGenerator .g4 4 d s)

/-- Meaning of `RD.W` (R154). -/
def execRdW (i : Nat) (s : State) : Host.Outcome State Fault Refusal := done (readStorage i s)

/-- Meaning of `WR.W` (R155). -/
def execWrW (i : Nat) (d : Byte) (s : State) : Host.Outcome State Fault Refusal := done (writeStorage i d s)

end Sys2Proof.Machine
end

