-- ==== Sys2Proof/Machine/MasterControl.lean ====
section
/-! DEFINITION. The Register Dispatcher's accesses to the master-control block and to the fill region
(spec/43_register_dispatcher.md R148 to R153, R156, R157). -/

namespace Sys2Proof.Machine

/-- Meaning of `RD.MVOL` (R148): all 8 bits as last written. -/
def execRdMvol (s : State) : Host.Outcome State Fault Refusal := done (respond (some s.mvol) s)

/-- Meaning of `WR.MVOL` (R149), gated. -/
def execWrMvol (d : Byte) (s : State) : Host.Outcome State Fault Refusal :=
  done (gated (fun s => { s with mvol := d }) s)

/-- Meaning of `RD.MROUTE` (R150). -/
def execRdMroute (s : State) : Host.Outcome State Fault Refusal := done (respond (some s.mroute) s)

/-- Meaning of `WR.MROUTE` (R151), gated. -/
def execWrMroute (d : Byte) (s : State) : Host.Outcome State Fault Refusal :=
  done (gated (fun s => { s with mroute := d }) s)

/-- Meaning of `RD.MCTRL` (R152). -/
def execRdMctrl (s : State) : Host.Outcome State Fault Refusal := done (respond (some (mctrlByte s)) s)

/-- Meaning of `WR.MCTRL` (R153), never gated. -/
def execWrMctrl (d : Byte) (s : State) : Host.Outcome State Fault Refusal := done (setMenable d s)

/-- Meaning of `RD.FILL.27` (R156). -/
def execRdFill27 (s : State) : Host.Outcome State Fault Refusal := done (respond (some fillByte) s)

/-- Meaning of `WR.FILL.27` (R157): discarded, whether the gate is open or not. -/
def execWrFill27 (_d : Byte) (s : State) : Host.Outcome State Fault Refusal := done s

/-- Meaning of `RD.FILL.28` (R156). -/
def execRdFill28 (_a : Nat) (s : State) : Host.Outcome State Fault Refusal := done (respond (some fillByte) s)

/-- Meaning of `WR.FILL.28` (R157). -/
def execWrFill28 (_a : Nat) (_d : Byte) (s : State) : Host.Outcome State Fault Refusal := done s

end Sys2Proof.Machine
end

