-- ==== Sys2Proof/Machine/System.lean ====
section
/-! DEFINITION. `RESET`, the one kind of reset (spec/70_reset_and_hazards.md R260, R262). -/

namespace Sys2Proof.Machine

/-- `RESET` (R260). The parameters, each generator's implementation and the host's moves still to come are no state of
the block and stay (log 16). The `power()` calls of line 7 are not in the trace, which line 9 starts empty. -/
def resetStep (s : State) : State :=
  { s with
    stage := 0
    phase := 0
    menable := false
    mvol := 0
    mroute := 0
    biasL := 0
    biasR := 0
    biasC := 0
    gen1 := genPower s.par .g1 s.gen1
    gen2 := genPower s.par .g2 s.gen2
    gen3 := genPower s.par .g3 s.gen3
    gen4 := genPower s.par .g4 s.gen4
    clock := 0
    resumePt := .atTop
    suspended := true
    sync := .normal
    mixed := ⟨0, 0, 0⟩
    filtered := ⟨0, 0, 0⟩
    samples := []
    readLog := []
    trace := []
    exits := []
    hostFault := none }

/-- Meaning of `RESET`. -/
def execReset (s : State) : Host.Outcome State Fault Refusal := done (resetStep s)

end Sys2Proof.Machine
end

