-- ==== Sys2Proof/Machine/Dispatch.lean ====
section
/-! DEFINITION. One arm for each instruction (spec/opcode_table.json). -/

namespace Sys2Proof.Machine

def exec (i : Instr) (s : State) : Host.Outcome State Fault Refusal :=
  match i with
  | .clkLen => Sys2Proof.Machine.execClkLen s
  | .clkSwp => Sys2Proof.Machine.execClkSwp s
  | .clkEnv => Sys2Proof.Machine.execClkEnv s
  | .cycle => Sys2Proof.Machine.execCycle s
  | .seq => Sys2Proof.Machine.execSeq s
  | .run => Sys2Proof.Machine.execRun s
  | .mix => Sys2Proof.Machine.execMix s
  | .hpf => Sys2Proof.Machine.execHpf s
  | .emit => Sys2Proof.Machine.execEmit s
  | .reset => Sys2Proof.Machine.execReset s
  | .rdG10 => Sys2Proof.Machine.execRdG10 s
  | .wrG10 d => Sys2Proof.Machine.execWrG10 d s
  | .rdG11 => Sys2Proof.Machine.execRdG11 s
  | .wrG11 d => Sys2Proof.Machine.execWrG11 d s
  | .rdG12 => Sys2Proof.Machine.execRdG12 s
  | .wrG12 d => Sys2Proof.Machine.execWrG12 d s
  | .rdG13 => Sys2Proof.Machine.execRdG13 s
  | .wrG13 d => Sys2Proof.Machine.execWrG13 d s
  | .rdG14 => Sys2Proof.Machine.execRdG14 s
  | .wrG14 d => Sys2Proof.Machine.execWrG14 d s
  | .rdG20 => Sys2Proof.Machine.execRdG20 s
  | .wrG20 d => Sys2Proof.Machine.execWrG20 d s
  | .rdG21 => Sys2Proof.Machine.execRdG21 s
  | .wrG21 d => Sys2Proof.Machine.execWrG21 d s
  | .rdG22 => Sys2Proof.Machine.execRdG22 s
  | .wrG22 d => Sys2Proof.Machine.execWrG22 d s
  | .rdG23 => Sys2Proof.Machine.execRdG23 s
  | .wrG23 d => Sys2Proof.Machine.execWrG23 d s
  | .rdG24 => Sys2Proof.Machine.execRdG24 s
  | .wrG24 d => Sys2Proof.Machine.execWrG24 d s
  | .rdG30 => Sys2Proof.Machine.execRdG30 s
  | .wrG30 d => Sys2Proof.Machine.execWrG30 d s
  | .rdG31 => Sys2Proof.Machine.execRdG31 s
  | .wrG31 d => Sys2Proof.Machine.execWrG31 d s
  | .rdG32 => Sys2Proof.Machine.execRdG32 s
  | .wrG32 d => Sys2Proof.Machine.execWrG32 d s
  | .rdG33 => Sys2Proof.Machine.execRdG33 s
  | .wrG33 d => Sys2Proof.Machine.execWrG33 d s
  | .rdG34 => Sys2Proof.Machine.execRdG34 s
  | .wrG34 d => Sys2Proof.Machine.execWrG34 d s
  | .rdG40 => Sys2Proof.Machine.execRdG40 s
  | .wrG40 d => Sys2Proof.Machine.execWrG40 d s
  | .rdG41 => Sys2Proof.Machine.execRdG41 s
  | .wrG41 d => Sys2Proof.Machine.execWrG41 d s
  | .rdG42 => Sys2Proof.Machine.execRdG42 s
  | .wrG42 d => Sys2Proof.Machine.execWrG42 d s
  | .rdG43 => Sys2Proof.Machine.execRdG43 s
  | .wrG43 d => Sys2Proof.Machine.execWrG43 d s
  | .rdG44 => Sys2Proof.Machine.execRdG44 s
  | .wrG44 d => Sys2Proof.Machine.execWrG44 d s
  | .rdMvol => Sys2Proof.Machine.execRdMvol s
  | .wrMvol d => Sys2Proof.Machine.execWrMvol d s
  | .rdMroute => Sys2Proof.Machine.execRdMroute s
  | .wrMroute d => Sys2Proof.Machine.execWrMroute d s
  | .rdMctrl => Sys2Proof.Machine.execRdMctrl s
  | .wrMctrl d => Sys2Proof.Machine.execWrMctrl d s
  | .rdFill27 => Sys2Proof.Machine.execRdFill27 s
  | .wrFill27 d => Sys2Proof.Machine.execWrFill27 d s
  | .rdFill28 a => Sys2Proof.Machine.execRdFill28 a s
  | .wrFill28 a d => Sys2Proof.Machine.execWrFill28 a d s
  | .rdW n => Sys2Proof.Machine.execRdW n s
  | .wrW n d => Sys2Proof.Machine.execWrW n d s

end Sys2Proof.Machine
end

