-- ==== Sys2Proof/Machine/HostMoves.lean ====
section
/-! DEFINITION. What a move of the host does: a command word (spec/30_encoding.md R71, R72), a host move (R85), or a move
that breaks the host's rules (spec/60_exceptions.md R241, R242). -/

namespace Sys2Proof.Machine

/-- A decoded command: an instruction, or an access for which the opcode table has no row (R142; log 11, log 22). -/
def runDecoded (c : Command) (s : State) : Host.Outcome State Fault Refusal :=
  match c with
  | .instr i => exec i s
  | .rdGen g off => done (readGenerator g off s)
  | .wrGen g off d => done (writeGenerator g off d s)
  | .rdNotSelected _ => done (respond none s)
  | .wrNotSelected _ _ => done s

/-- A decoded command given to the block. A `RD` or `WR` while the audio context runs breaks the host's rules (R61,
R241); `CYCLE` and `RESET` are not in that rule (R241, R260; log 13). -/
def issue (c : Command) (s : State) : Host.Outcome State Fault Refusal :=
  if c.isAccess && !s.suspended then hostViolation .accessDuringCycle s else runDecoded c s

/-- A command word given to the block. -/
def runCommand (w : Nat) (s : State) : Host.Outcome State Fault Refusal :=
  match decode s.par w with
  | .ok c => issue c s
  | .error .notACommandWord => .refused .notACommandWord

/-- The intruding move itself, by the ordinary rules of that move. -/
def intrusionMove (m : Intrusion) (s : State) : Host.Outcome State Fault Refusal :=
  match m with
  | .rd a => issue (decodeRd s.par a) s
  | .wr a d => issue (decodeWr s.par a d) s
  | .grant n => grant n s
  | .sync m => setSync m s
  | .resume => resume s

/-- A move made inside a `RESUME` or a `CYCLE`, that is while `suspended` is false (R221 line 1, R241; log 12). -/
def intrude (m : Intrusion) (s : State) : Host.Outcome State Fault Refusal :=
  intrusionMove m { s with suspended := false }

/-- One move of the host. -/
def hostMove (m : HostMove) (s : State) : Host.Outcome State Fault Refusal :=
  match m with
  | .cmd w => runCommand w s
  | .resume => resume s
  | .grant n => grant n s
  | .sync m => setSync m s
  | .intrude m => intrude m s

/-- The parameter set is well-formed: R7, R8, R116, and each generator meets the contract under it (R7). -/
def paramsOk (s : State) : Bool :=
  s.par.wf && (genFits s.par s.gen1 && (genFits s.par s.gen2 && (genFits s.par s.gen3 && genFits s.par s.gen4)))

/-- The host's next move; without one, nothing happens (log 9). -/
def makeMove (s : State) : Host.Outcome State Fault Refusal :=
  match s.pending with
  | [] => done s
  | m :: rest => hostMove m { s with pending := rest }

/-- What the machine does next: after a host fault only `RESET` (R241, R260; log 25), else the host's next move. -/
def nextMove (s : State) : Host.Outcome State Fault Refusal :=
  match s.hostFault with
  | some c => orTerminal c makeMove s
  | none => makeMove s

/-- How a word of spec/opcode_table.json comes to run next (log 8): a CMD word is the host's next move; an EVT word is the
value of `phase` at a sequencer tick (R70), so the tick and the phase are set and the next move is a `CYCLE`. No host fault stands
before it. -/
def placeWord (s : State) (nbits w : Nat) : State :=
  if nbits ≤ 8 then
    { s with
      stage := 0
      phase := BitVec.ofNat 3 w
      hostFault := none
      pending := .cmd (encodeCmd s.par .cycle) :: s.pending }
  else { s with hostFault := none, pending := .cmd w :: s.pending }

end Sys2Proof.Machine
end

