-- ==== Sys2Proof/Machine/Step.lean ====
section
/-! DEFINITION. One step of the machine: the host's next move (there is no program counter, spec/10_state.md R24). -/

namespace Sys2Proof.Machine

/-- One step: an ill-formed parameter set is refused before anything else (spec/60_exceptions.md R241), else the host's
next move is made, after a host fault only `RESET` (R260; log 25). -/
def step (s : State) : Host.Outcome State Fault Refusal :=
  if paramsOk s then nextMove s else .refused .illFormedParameters

/-- `s` with the word `w` of spec/opcode_table.json placed so that the next step runs it (log 8). -/
def State.withFetchWord (s : State) (nbits w : Nat) : State := placeWord s nbits w

end Sys2Proof.Machine
end

