-- ==== Sys2Proof/Safety.lean ====
section
/-! DEFINITION. The terms in which claims about the machine are made: the observation (spec/00_scope.md R15), a sequence of
operations, the invariants (spec/10_state.md R37), and the filter at a finite width (spec/42_dc_filter.md R129). -/

namespace Sys2Proof.Machine

/-- What a host can observe of the block (R15). -/
structure Observation where
  readLog : List (Option Byte)
  samples : List Sample
  trace : List GenCall
deriving DecidableEq, Repr

/-- The observation of a state. -/
def observe (s : State) : Observation := ⟨s.readLog, s.samples, s.trace⟩

/-- The operations of a list, one after the other, up to the first stop. -/
def runInstrs : List Instr → State → Host.Outcome State Fault Refusal
  | [], s => .next s
  | i :: is, s =>
    match exec i s with
    | .next t => runInstrs is t
    | .fault f => .fault f
    | .refused r => .refused r

/-- `M = 2^(15 + 2*SHIFT_A)`, the bound of the accumulators (R130). -/
def biasBound (p : Params) : Int := ((2 ^ (15 + 2 * p.shiftA) : Nat) : Int)

/-- A delivered sample is in the signed 16-bit range on every channel (R9, R212), and has a centre value exactly if
`HAS_CENTER` (R113). -/
def SampleOk (p : Params) (x : Sample) : Prop :=
  InInt16 x.l ∧ InInt16 x.r ∧ (x.c.isSome = p.hasCenter) ∧ ∀ c, x.c = some c → InInt16 c

/-- What holds of a RefGen in every reachable state (R191 to R196): the sweep counter is generator 1's, generator 2 has
no register at offset 0, only generator 3 has storage, and an active generator 3 or 4 has its enable register set. -/
def RefGenInv (p : Params) (g : GenId) (r : RefGen) : Prop :=
  (g ≠ .g1 → r.swCnt = 0) ∧ (g = .g2 → r.r0 = 0)
    ∧ r.store.length = (if g = .g3 then rangeSize p.rngW else 0)
    ∧ (hasDac g = true → r.active = true → r.r0.getLsbD 7 = true)

/-- What holds of a generator of unknown inside in every reachable state (R178, R179, R183): generator 3 alone has storage,
the registers are those of its block, and an active generator 3 or 4 has its enable register on. -/
def ContractInv (p : Params) (g : GenId) (c : ContractGen) : Prop :=
  c.store.length = (if g = .g3 then rangeSize p.rngW else 0)
    ∧ c.regs.length = rangeSize (genRange p g)
    ∧ (c.active = true → mayBeActive g c.dac = true)

/-- The invariant of one generator. -/
def GenInv (p : Params) (g : GenId) : GenState → Prop
  | .refGen r => RefGenInv p g r
  | .unknown c => ContractInv p g c

/-- The invariant of the machine between two moves of the host (R37): the divider counts below SEQ_DIV, the accumulators
are bounded, nothing of a cycle is in flight (R31), the audio context is suspended (R228) unless the host has broken its
rules and issues `RESET` next (R241, R260; log 25), every delivered sample is in range, and each generator keeps its own
invariant. -/
structure Inv (s : State) : Prop where
  suspended : s.hostFault = none → s.suspended = true
  faulted : s.hostFault ≠ none → resetNext s = true
  stage : s.stage < s.par.seqDiv
  biasL : |s.biasL| ≤ biasBound s.par
  biasR : |s.biasR| ≤ biasBound s.par
  biasC : |s.biasC| ≤ biasBound s.par
  noCentre : s.par.hasCenter = false → s.biasC = 0
  mixed : s.mixed = ⟨0, 0, 0⟩
  filtered : s.filtered = ⟨0, 0, 0⟩
  samples : ∀ x ∈ s.samples, SampleOk s.par x
  gens : ∀ g, GenInv s.par g (getGen g s)

/-- The value of a two's-complement register of `w` bits into which `x` is written. -/
def wrapTo (w : Nat) (x : Int) : Int := (BitVec.ofInt w x).toInt

/-- The accumulator step of R126 with every intermediate value in a register of `w` bits. -/
def hpfBiasAtWidth (w : Nat) (p : Params) (bias s : Int) : Int :=
  let d := wrapTo w (wrapTo w (shl s p.shiftA) - shr bias p.shiftA)
  wrapTo w (bias + shr (wrapTo w (d * (p.k : Int))) p.shiftA)

/-- The output of R126 with every intermediate value in a register of `w` bits. -/
def hpfOutAtWidth (w : Nat) (p : Params) (bias s : Int) : Int :=
  clamp16 (wrapTo w (s - shr (hpfBiasAtWidth w p bias s) p.shiftB))

/-- The number of cycles one `RESUME` performs from the clock value `c` (R226 (a)): `max(1, ceil(-c / CLK_STEP))`. -/
def resumeCycles (clkStep : Nat) (c : Int) : Nat := max 1 ((-c + (clkStep : Int) - 1) / (clkStep : Int)).toNat

/-- A host that keeps the rules (R241, R266): no move inside a cycle, and every command word has the format's width. -/
def HostMove.lawful (p : Params) : HostMove → Prop
  | .cmd w => w < 2 ^ cmdBits p
  | .resume | .grant _ | .sync _ => True
  | .intrude _ => False

end Sys2Proof.Machine
end

