-- ==== Sys2Proof/Certificates/Slice0/Obligations.lean ====
section
/-! DEFINITION. The statements about the machine, for the provers. Each docstring names the rules of spec/ it formalises. -/

open Sys2Proof Sys2Proof.Machine

/-- The three event decoders fire exactly at the phases of the table. Rule R75; R76; R77; R78. -/
def Obligations.EventDecodersMatchTheTable : Prop :=
  (∀ p : BitVec 3, (Instr.clkLen ∈ decodeEvt p ↔ p ∈ [0, 2, 4, 6]) ∧ (Instr.clkSwp ∈ decodeEvt p ↔ p ∈ [2, 6])
      ∧ (Instr.clkEnv ∈ decodeEvt p ↔ p = 7))
    ∧ decodeEvt 0 = [.clkLen] ∧ decodeEvt 1 = [] ∧ decodeEvt 2 = [.clkLen, .clkSwp] ∧ decodeEvt 3 = []
    ∧ decodeEvt 4 = [.clkLen] ∧ decodeEvt 5 = [] ∧ decodeEvt 6 = [.clkLen, .clkSwp] ∧ decodeEvt 7 = [.clkEnv]
    ∧ ∀ (p : BitVec 3) (i : Instr), p ∈ encodeEvt i ↔ i ∈ decodeEvt p

/-- Command words written out from the encoding table of REF decode to their operations. Derived from 30_encoding.md
R80, R81; 95_test_vectors.md P1, P2. -/
def Obligations.WrittenWordsDecode : Prop :=
  decode Params.ref 0x0000000 = .ok (.instr .cycle) ∧ decode Params.ref 0x1000000 = .ok (.instr .reset)
    ∧ decode Params.ref 0x2FF1200 = .ok (.instr .rdG12) ∧ decode Params.ref 0x3FF14C0 = .ok (.instr (.wrG14 0xC0))
    ∧ decode Params.ref 0x2FF1600 = .ok (.instr .rdG21) ∧ decode Params.ref 0x3FF1EFF = .ok (.instr (.wrG34 0xFF))
    ∧ decode Params.ref 0x2FF2000 = .ok (.instr .rdG41) ∧ decode Params.ref 0x3FF1F80 = .ok (.instr (.wrG40 0x80))
    ∧ decode Params.ref 0x2FF2400 = .ok (.instr .rdMvol) ∧ decode Params.ref 0x3FF2477 = .ok (.instr (.wrMvol 0x77))
    ∧ decode Params.ref 0x2FF2500 = .ok (.instr .rdMroute) ∧ decode Params.ref 0x3FF2511 = .ok (.instr (.wrMroute 0x11))
    ∧ decode Params.ref 0x2FF2600 = .ok (.instr .rdMctrl) ∧ decode Params.ref 0x3FF2680 = .ok (.instr (.wrMctrl 0x80))
    ∧ decode Params.ref 0x2FF2700 = .ok (.instr .rdFill27) ∧ decode Params.ref 0x3FF2F01 = .ok (.instr (.wrFill28 0xFF2F 1))
    ∧ decode Params.ref 0x2FF3F00 = .ok (.instr (.rdW 15)) ∧ decode Params.ref 0x3FF3012 = .ok (.instr (.wrW 0 0x12))
    ∧ decode Params.ref 0x2FF0F00 = .ok (.rdNotSelected 0xFF0F)
    ∧ decode Params.ref 0x3FF40AA = .ok (.wrNotSelected 0xFF40 0xAA)

/-- Decoding the encoded word of a well-formed instruction gives the instruction back. Derived from 30_encoding.md R71,
R72, R74, R79, R80; 00_scope.md R8. -/
def Obligations.DecodeOfEncode : Prop :=
  ∀ (p : Params) (i : Instr) (w : Nat), p.wf = true → i.wf p = true → encode p i = some w →
    decode p w = .ok (.instr i)

/-- A word that decodes to an instruction decodes to a well-formed one, and its op, addr and data fields are the
operands. Derived from 30_encoding.md R71, R72, R74, R79. -/
def Obligations.DecodedFieldsAreTheWordsFields : Prop :=
  ∀ (p : Params) (w : Nat) (i : Instr), p.wf = true → decode p w = .ok (.instr i) →
    i.wf p = true ∧
      match i.cmd p with
      | none => False
      | some .cycle => cmdOp p w = 0
      | some .reset => cmdOp p w = 1
      | some (.rd a) => cmdOp p w = 2 ∧ cmdAddr p w = a
      | some (.wr a d) => cmdOp p w = 3 ∧ cmdAddr p w = a ∧ cmdData w = d

/-- Every word of the CMD format decodes by its op field; a longer number is rejected. Derived from 30_encoding.md R71,
R72, R82. The model's own choices in it: log 10. -/
def Obligations.EveryCommandWordDecodes : Prop :=
  (∀ (p : Params) (w : Nat),
      (w < 2 ^ cmdBits p →
        (cmdOp p w = 0 → decode p w = .ok (.instr .cycle)) ∧ (cmdOp p w = 1 → decode p w = .ok (.instr .reset))
          ∧ (cmdOp p w = 2 → decode p w = .ok (decodeRd p (cmdAddr p w)))
          ∧ (cmdOp p w = 3 → decode p w = .ok (decodeWr p (cmdAddr p w) (cmdData w))) ∧ cmdOp p w < 4)
      ∧ (2 ^ cmdBits p ≤ w → decode p w = .error .notACommandWord))
    ∧ encodeCmd Params.ref .cycle = 0x0000000 ∧ encodeCmd Params.ref .reset = 0x1000000

/-- Under well-formed parameters Route depends only on which sub-range holds the address. Rule R144. -/
def Obligations.RouteFollowsTheMap : Prop :=
  ∀ p : Params, p.wf = true →
    (∀ (g : GenId) (a : Nat), inRange (genRange p g) a = true → route p a = .gen g (a - (genRange p g).lo))
      ∧ route p (addrMvol p) = .mvol ∧ route p (addrMroute p) = .mroute ∧ route p (addrMctrl p) = .mctrl
      ∧ (∀ a : Nat, inRange p.rngW a = true → route p a = .storage (a - p.rngW.lo))
      ∧ (∀ a : Nat, (a < p.win.lo ∨ p.win.hi < a) → route p a = .notSelected)
      ∧ (∀ a : Nat, inRange p.win a = true → (∀ r ∈ p.ranges, inRange r a = false) → route p a = .fill)

/-- The parameter sets the model accepts are those of rules R7, R8 and R116. Derived from 00_scope.md R7, R8;
41_mixer.md R116. The model's own choices in it: log 2, 23. -/
def Obligations.ParametersAcceptedAreTheRules : Prop :=
  ∀ p : Params, p.wf = true ↔
    (1 ≤ p.seqDiv ∧ 0 < p.k ∧ p.k ≤ 2 ^ (2 * p.shiftA) ∧ 1 ≤ p.addrBits ∧ 1 ≤ p.clkStep)
      ∧ (p.win.lo ≤ p.win.hi ∧ p.win.hi < 2 ^ p.addrBits)
      ∧ (∀ r ∈ p.ranges, r.lo ≤ r.hi ∧ p.win.lo ≤ r.lo ∧ r.hi ≤ p.win.hi)
      ∧ p.ranges.Pairwise (fun r s => ∀ a : Nat, ¬(inRange r a = true ∧ inRange s a = true))
      ∧ p.rngM.hi = p.rngM.lo + 2 ∧ p.waveInit.length = rangeSize p.rngW
      ∧ (∀ (x : Nat) (v : BitVec 3), x ≤ 4 * p.genSampleMax → InInt16 (volScale p.volScale (x : Int) v))
      ∧ (∀ x : Nat, x ≤ 4 * p.genSampleMax → InInt16 (centerScale p.centerScale (x : Int)))
      ∧ (∀ rows, p.volScale = .table rows →
          rows.length = 4 * p.genSampleMax + 1 ∧ ∀ row ∈ rows, row.length = 8)
      ∧ (∀ row, p.centerScale = .table row → row.length = 4 * p.genSampleMax + 1)

/-- A step runs the instruction its command word decodes to. Derived from 30_encoding.md R71, R72, R84; 60_exceptions.md
R241; 70_reset_and_hazards.md R260. The model's own choices in it: log 8, 13, 25. -/
def Obligations.StepRunsTheDecodedInstruction : Prop :=
  ∀ (s : State) (w : Nat) (rest : List HostMove) (i : Instr),
    paramsOk s = true → s.pending = .cmd w :: rest → decode s.par w = .ok (.instr i) →
    (i.isAccess = true → s.suspended = true) → (s.hostFault = none ∨ i = .reset) → step s = exec i { s with pending := rest }

/-- Without a move of the host nothing happens; an ill-formed parameter set is refused before any step. Derived from
60_exceptions.md R241, R253. The model's own choices in it: log 9, 25. -/
def Obligations.StepIdlesOrRefuses : Prop :=
  ∀ s : State, (paramsOk s = true → s.hostFault = none → s.pending = [] → step s = .next s)
    ∧ (paramsOk s = false → step s = .refused .illFormedParameters)

/-- An access outside the window does not select the block: NotSelected, no effect, no fault. Derived from
43_register_dispatcher.md R142. The model's own choices in it: log 11, 8, 25. -/
def Obligations.AccessOutsideTheWindow : Prop :=
  ∀ (s : State) (a : Nat) (d : Byte) (rest : List HostMove), paramsOk s = true → s.hostFault = none → s.suspended = true →
    a < 2 ^ s.par.addrBits → (a < s.par.win.lo ∨ s.par.win.hi < a) →
    (s.pending = .cmd (encodeCmd s.par (.rd a)) :: rest →
        step s = .next { s with pending := rest, readLog := s.readLog ++ [none] })
      ∧ (s.pending = .cmd (encodeCmd s.par (.wr a d)) :: rest → step s = .next { s with pending := rest })

/-- A RD step at any address returns the byte of the window there, makes the one call of its region and changes no state
of the block. Derived from 43_register_dispatcher.md R140, R146, R154; 20_memory.md R57; 44_generator_interface.md
R176. The model's own choices in it: log 8, 11, 25. -/
def Obligations.BusReadReturnsTheByte : Prop :=
  ∀ (s : State) (a : Nat) (rest : List HostMove), paramsOk s = true → s.hostFault = none → s.suspended = true →
    a < 2 ^ s.par.addrBits → s.pending = .cmd (encodeCmd s.par (.rd a)) :: rest →
    let calls : List GenCall :=
      match route s.par a with
      | .gen g off => [⟨g, .read off⟩]
      | .storage i => [⟨.g3, .readStorage i⟩]
      | .mvol | .mroute | .mctrl | .fill | .notSelected => []
    step s = .next { s with pending := rest, readLog := s.readLog ++ [peek a s], trace := s.trace ++ calls }
      ∧ ∀ (t : State) (b : Nat), step s = .next t → peek b t = peek b s

/-- With menable 0 a WR at any address but A_MCTRL changes nothing. Derived from 43_register_dispatcher.md R141, R143,
R153. The model's own choices in it: log 8, 25. -/
def Obligations.ClosedGateDiscardsEveryWrite : Prop :=
  ∀ (s : State) (a : Nat) (d : Byte) (rest : List HostMove), paramsOk s = true → s.hostFault = none → s.suspended = true →
    a < 2 ^ s.par.addrBits → s.pending = .cmd (encodeCmd s.par (.wr a d)) :: rest →
    (s.menable = false → a ≠ addrMctrl s.par → step s = .next { s with pending := rest })
      ∧ (a = addrMctrl s.par → step s = .next { s with pending := rest, menable := d.getLsbD 7 })

/-- With the gate open a WR step performs the write of the region its address routes to. Derived from
43_register_dispatcher.md R141, R147, R149, R151, R155, R157. The model's own choices in it: log 8, 25. -/
def Obligations.OpenGateWriteActsOnItsRegion : Prop :=
  ∀ (s : State) (a : Nat) (d : Byte) (rest : List HostMove), paramsOk s = true → s.hostFault = none → s.suspended = true →
    s.menable = true → a < 2 ^ s.par.addrBits → s.pending = .cmd (encodeCmd s.par (.wr a d)) :: rest →
    (∀ g off, route s.par a = .gen g off →
        step s = .next (setGen g (genApply s.par g (.write off d) (getGen g s))
          { s with pending := rest, trace := s.trace ++ [⟨g, .write off d⟩] }))
      ∧ (route s.par a = .mvol → step s = .next { s with pending := rest, mvol := d })
      ∧ (route s.par a = .mroute → step s = .next { s with pending := rest, mroute := d })
      ∧ (∀ i, route s.par a = .storage i →
        step s = .next { s with
          pending := rest, gen3 := genApply s.par .g3 (.writeStorage i d) s.gen3,
          trace := s.trace ++ [⟨.g3, .writeStorage i d⟩] })
      ∧ (route s.par a = .fill ∨ route s.par a = .notSelected → step s = .next { s with pending := rest })

/-- With RefGen generators a WR step changes what is read at its own address only. Derived from 20_memory.md R56, R58;
44_generator_interface.md R194, R195, R201. The model's own choices in it: log 8, 17, 19, 25. -/
def Obligations.WriteReachesOnlyItsAddress : Prop :=
  ∀ (s t : State) (a : Nat) (d : Byte) (rest : List HostMove), paramsOk s = true → s.hostFault = none → s.suspended = true →
    (∀ g, ∃ r, getGen g s = .refGen r) →
    a < 2 ^ s.par.addrBits → s.pending = .cmd (encodeCmd s.par (.wr a d)) :: rest → step s = .next t →
    ∀ b : Nat, b ≠ a → peek b t = peek b s

/-- CLK_LEN, CLK_SWP and CLK_ENV call exactly their generators, in order, and change nothing else. Rule R93; R94; R95. -/
def Obligations.EventsCallTheirGenerators : Prop :=
  ∀ s : State,
    exec .clkLen s = .next { s with
        gen1 := genApply s.par .g1 .clockLength s.gen1, gen2 := genApply s.par .g2 .clockLength s.gen2,
        gen3 := genApply s.par .g3 .clockLength s.gen3, gen4 := genApply s.par .g4 .clockLength s.gen4,
        trace := s.trace ++ [⟨.g1, .clockLength⟩, ⟨.g2, .clockLength⟩, ⟨.g3, .clockLength⟩, ⟨.g4, .clockLength⟩] }
      ∧ exec .clkSwp s = .next { s with
        gen1 := genApply s.par .g1 .clockSweep s.gen1, trace := s.trace ++ [⟨.g1, .clockSweep⟩] }
      ∧ exec .clkEnv s = .next { s with
        gen1 := genApply s.par .g1 .clockEnvelope s.gen1, gen2 := genApply s.par .g2 .clockEnvelope s.gen2,
        gen4 := genApply s.par .g4 .clockEnvelope s.gen4,
        trace := s.trace ++ [⟨.g1, .clockEnvelope⟩, ⟨.g2, .clockEnvelope⟩, ⟨.g4, .clockEnvelope⟩] }

/-- SEQ advances the divider, and in a tick runs the decoded events in order and steps the phase. Rule R91; R92. -/
def Obligations.SeqDividesAndDispatches : Prop :=
  ∀ s : State,
    (s.stage ≠ 0 → exec .seq s = .next { s with stage := (s.stage + 1) % s.par.seqDiv })
      ∧ (s.stage = 0 → ∃ t : State,
        runInstrs (decodeEvt s.phase) { s with stage := (s.stage + 1) % s.par.seqDiv } = .next t
          ∧ t.stage = (s.stage + 1) % s.par.seqDiv ∧ t.phase = s.phase
          ∧ exec .seq s = .next { t with phase := BitVec.ofNat 3 ((s.phase.toNat + 1) % 8) })

/-- The calls one cycle makes on the generators, by tick and phase. Rule R215. -/
def Obligations.CallTraceOfACycle : Prop :=
  ∀ s : State, ∃ t : State, exec .cycle s = .next t ∧
    t.trace = s.trace
      ++ (if s.stage ≠ 0 then []
          else if s.phase = 0 ∨ s.phase = 4 then
            [⟨.g1, .clockLength⟩, ⟨.g2, .clockLength⟩, ⟨.g3, .clockLength⟩, ⟨.g4, .clockLength⟩]
          else if s.phase = 2 ∨ s.phase = 6 then
            [⟨.g1, .clockLength⟩, ⟨.g2, .clockLength⟩, ⟨.g3, .clockLength⟩, ⟨.g4, .clockLength⟩, ⟨.g1, .clockSweep⟩]
          else if s.phase = 7 then [⟨.g1, .clockEnvelope⟩, ⟨.g2, .clockEnvelope⟩, ⟨.g4, .clockEnvelope⟩]
          else [])
      ++ [⟨.g1, .run⟩, ⟨.g2, .run⟩, ⟨.g3, .run⟩, ⟨.g4, .run⟩]
      ++ [⟨.g1, .sample⟩, ⟨.g2, .sample⟩, ⟨.g3, .sample⟩, ⟨.g4, .sample⟩]

/-- The whole schedule of the events, counted in cycles from reset. Derived from 40_frame_sequencer.md R97; 10_state.md
R24. -/
def Obligations.SequencerSchedule : Prop :=
  ∀ (s : State) (c : Nat), s.stage = 0 → s.phase = 0 → 1 ≤ s.par.seqDiv →
    ∃ (t u : State) (calls : List GenCall),
      runInstrs (List.replicate c .cycle) s = .next t ∧ exec .cycle t = .next u ∧ u.trace = t.trace ++ calls
        ∧ t.stage = c % s.par.seqDiv
        ∧ (c % s.par.seqDiv = 0 → t.phase = BitVec.ofNat 3 (c / s.par.seqDiv))
        ∧ (∀ g, ⟨g, .clockLength⟩ ∈ calls ↔ c % (2 * s.par.seqDiv) = 0)
        ∧ (∀ g, ⟨g, .clockSweep⟩ ∈ calls ↔ g = .g1 ∧ c % (4 * s.par.seqDiv) = 2 * s.par.seqDiv)
        ∧ (∀ g, ⟨g, .clockEnvelope⟩ ∈ calls ↔ g ≠ .g3 ∧ c % (8 * s.par.seqDiv) = 7 * s.par.seqDiv)

/-- RUN calls run on generators 1, 2, 3, 4, once each and in order. Derived from 45_cycle.md R211. -/
def Obligations.RunRunsEveryGeneratorOnce : Prop :=
  ∀ s : State, exec .run s = .next { s with
    gen1 := genApply s.par .g1 .run s.gen1, gen2 := genApply s.par .g2 .run s.gen2,
    gen3 := genApply s.par .g3 .run s.gen3, gen4 := genApply s.par .g4 .run s.gen4,
    trace := s.trace ++ [⟨.g1, .run⟩, ⟨.g2, .run⟩, ⟨.g3, .run⟩, ⟨.g4, .run⟩] }

/-- MIX: the routed sums, scaled by the master volumes, and the centre sum. Derived from 41_mixer.md R111, R113;
10_state.md R27, R28; 44_generator_interface.md R170; 45_cycle.md R215. The model's own choices in it: log 6, 14. -/
def Obligations.MixSumsAndScales : Prop :=
  ∀ s : State,
    let x : GenId → Int := fun g => (genSample s.par (getGen g s) : Int)
    let on : Nat → GenId → Int := fun b g => if s.mroute.getLsbD b then x g else 0
    exec .mix s = .next { s with
      mixed :=
        { l := volScale s.par.volScale (on 4 .g1 + on 5 .g2 + on 6 .g3 + on 7 .g4) (s.mvol.extractLsb' 4 3)
          r := volScale s.par.volScale (on 0 .g1 + on 1 .g2 + on 2 .g3 + on 3 .g4) (s.mvol.extractLsb' 0 3)
          c := if s.par.hasCenter then centerScale s.par.centerScale (x .g1 + x .g2 + x .g3 + x .g4) else 0 }
      trace := s.trace ++ [⟨.g1, .sample⟩, ⟨.g2, .sample⟩, ⟨.g3, .sample⟩, ⟨.g4, .sample⟩] }

/-- The mix does not depend on menable nor on bits 7 and 3 of mvol. Derived from 41_mixer.md R114, R118. The model's own
choices in it: log 6. -/
def Obligations.MixIgnoresGateAndSpareBits : Prop :=
  ∀ (s : State) (b : Bool) (v : Byte), v &&& 0x77 = s.mvol &&& 0x77 →
    ∃ t u : State, exec .mix s = .next t ∧ exec .mix { s with menable := b, mvol := v } = .next u ∧ u.mixed = t.mixed

/-- Under well-formed parameters every mix lies in the signed 16-bit range. Derived from 41_mixer.md R116;
44_generator_interface.md R175. The model's own choices in it: log 2, 6, 27. -/
def Obligations.MixStaysInSixteenBits : Prop :=
  ∀ s : State, paramsOk s = true → (∀ g, genSample s.par (getGen g s) ≤ s.par.genSampleMax)
    ∧ ∃ t : State, exec .mix s = .next t ∧ InInt16 t.mixed.l ∧ InInt16 t.mixed.r ∧ InInt16 t.mixed.c

/-- HPF: the accumulator and the filtered sample of each channel. Derived from 42_dc_filter.md R126, R134. The model's
own choices in it: log 6. -/
def Obligations.HpfFiltersEveryChannel : Prop :=
  ∀ s : State,
    let d : Int → Int → Int := fun b x =>
      x * ((2 ^ s.par.shiftA : Nat) : Int) - b / ((2 ^ s.par.shiftA : Nat) : Int)
    let b' : Int → Int → Int := fun b x => b + d b x * (s.par.k : Int) / ((2 ^ s.par.shiftA : Nat) : Int)
    let out : Int → Int → Int := fun b x => clamp16 (x - b' b x / ((2 ^ s.par.shiftB : Nat) : Int))
    exec .hpf s = .next { s with
      biasL := b' s.biasL s.mixed.l
      biasR := b' s.biasR s.mixed.r
      biasC := if s.par.hasCenter then b' s.biasC s.mixed.c else s.biasC
      filtered :=
        { l := out s.biasL s.mixed.l
          r := out s.biasR s.mixed.r
          c := if s.par.hasCenter then out s.biasC s.mixed.c else 0 }
      mixed := ⟨0, 0, 0⟩ }

/-- clamp16 saturates, so every HPF output lies in the signed 16-bit range. Rule R127. -/
def Obligations.FilterOutputSaturates : Prop :=
  (∀ x : Int, (x < -32768 → clamp16 x = -32768) ∧ (32767 < x → clamp16 x = 32767) ∧ (InInt16 x → clamp16 x = x))
    ∧ ∀ (p : Params) (bias x : Int), InInt16 (hpfOut p bias x)

/-- The accumulator bound of R130 is kept by every filter step, and the product bound holds. Rule R130. -/
def Obligations.AccumulatorStaysBounded : Prop :=
  ∀ p : Params, 0 < p.k → p.k ≤ 2 ^ (2 * p.shiftA) →
    (∀ bias x : Int, |bias| ≤ biasBound p → InInt16 x → |hpfBias p bias x| ≤ biasBound p
        ∧ (p.k < 2 ^ p.shiftA → |hpfDiff p bias x * (p.k : Int)| < ((2 ^ (16 + 2 * p.shiftA) : Nat) : Int)))
      ∧ ∀ xs : List Int, (∀ x ∈ xs, InInt16 x) → |xs.foldl (hpfBias p) 0| ≤ biasBound p

/-- A two's-complement filter of at least 17 + 2*SHIFT_A bits equals the unbounded one. Derived from 42_dc_filter.md
R129, R130. The model's own choices in it: log 28. -/
def Obligations.FiniteWidthFilterAgrees : Prop :=
  ∀ (w : Nat) (p : Params) (bias x : Int), 0 < p.k → p.k < 2 ^ p.shiftA → 17 + 2 * p.shiftA ≤ w →
    |bias| ≤ biasBound p → InInt16 x →
    hpfBiasAtWidth w p bias x = hpfBias p bias x ∧ hpfOutAtWidth w p bias x = hpfOut p bias x

/-- An all-zero stream leaves the accumulators and the outputs at zero, for every parameter value. Derived from
42_dc_filter.md R132. The model's own choices in it: log 6. -/
def Obligations.ZeroInputStaysZero : Prop :=
  ∀ (n : Nat) (s : State), s.biasL = 0 → s.biasR = 0 → s.biasC = 0 → s.mixed = ⟨0, 0, 0⟩ →
    ∃ t : State, runInstrs (List.replicate n .hpf) s = .next t ∧ t.biasL = 0 ∧ t.biasR = 0 ∧ t.biasC = 0
      ∧ (1 ≤ n → t.filtered = ⟨0, 0, 0⟩)

/-- For a constant input the accumulator moves monotonically toward the value at which d is 0 and does not pass it.
Derived from 42_dc_filter.md R131. -/
def Obligations.AccumulatorMovesTowardTheInput : Prop :=
  ∀ (p : Params) (bias x : Int), 0 < p.k → p.k ≤ 2 ^ (2 * p.shiftA) →
    (0 ≤ hpfDiff p bias x → bias ≤ hpfBias p bias x ∧ 0 ≤ hpfDiff p (hpfBias p bias x) x)
      ∧ (hpfDiff p bias x ≤ 0 → hpfBias p bias x ≤ bias ∧ hpfDiff p (hpfBias p bias x) x ≤ 0)

/-- EMIT appends the filtered pair to the output stream, the centre value beside it if present. Derived from 45_cycle.md
R212; 41_mixer.md R113. The model's own choices in it: log 6. -/
def Obligations.EmitDeliversOnePair : Prop :=
  ∀ s : State, exec .emit s = .next { s with
    samples := s.samples ++ [⟨s.filtered.l, s.filtered.r, if s.par.hasCenter then some s.filtered.c else none⟩]
    filtered := ⟨0, 0, 0⟩ }

/-- CYCLE is SEQ, RUN, MIX, HPF, EMIT, one after the other. Rule R210. -/
def Obligations.CycleIsItsFiveSubOperations : Prop :=
  ∀ s : State, ∃ t : State,
    runInstrs [.seq, .run, .mix, .hpf, .emit] s = .next t ∧ exec .cycle s = .next t

/-- With menable 0 a CYCLE does exactly what it does with menable 1. Rule R216. -/
def Obligations.CycleIgnoresMenable : Prop :=
  ∀ (s : State) (b : Bool), ∃ t : State,
    exec .cycle s = .next t ∧ t.menable = s.menable ∧ exec .cycle { s with menable := b } = .next { t with menable := b }

/-- No operation of a cycle reads the adapter, the host input, the logs or the pending moves. Derived from
46_scheduler_adapter.md R229; 45_cycle.md R210. The model's own choices in it: log 8, 15, 25. -/
def Obligations.CycleIgnoresTheHost : Prop :=
  ∀ (s : State) (clock : Int) (pt : ResumePt) (susp : Bool) (m : SyncMode) (log : List (Option Byte))
      (exits : List Suspension) (hf : Option HostCause) (moves : List HostMove), ∃ t : State, exec .cycle s = .next t ∧
    exec .cycle { s with
        clock := clock, resumePt := pt, suspended := susp, sync := m, readLog := log, exits := exits, hostFault := hf,
        pending := moves }
      = .next { t with
        clock := clock, resumePt := pt, suspended := susp, sync := m, readLog := log, exits := exits, hostFault := hf,
        pending := moves }

/-- After n cycles since RESET the stream holds exactly n pairs, each added at the end and in range. Rule R213. -/
def Obligations.OnePairPerCycleInOrder : Prop :=
  (∀ s : State, ∃ r : State, exec .reset s = .next r ∧ r.samples = [])
    ∧ ∀ (n : Nat) (s : State), ∃ (t : State) (new : List Sample),
      runInstrs (List.replicate n .cycle) s = .next t ∧ t.samples = s.samples ++ new ∧ new.length = n
        ∧ ∀ x ∈ new, SampleOk s.par x

/-- What a CYCLE leaves unchanged, and how each generator and accumulator changes. Derived from 45_cycle.md R210, R218;
10_state.md R31; 42_dc_filter.md R126, R134. The model's own choices in it: log 6, 20. -/
def Obligations.CycleFrame : Prop :=
  ∀ s : State, ∃ q m t : State, exec .seq s = .next q ∧ runInstrs [.run, .mix] q = .next m ∧ exec .cycle s = .next t
    ∧ t = { s with
        stage := t.stage, phase := t.phase, gen1 := t.gen1, gen2 := t.gen2, gen3 := t.gen3, gen4 := t.gen4,
        biasL := t.biasL, biasR := t.biasR, biasC := t.biasC, samples := t.samples, trace := t.trace,
        mixed := ⟨0, 0, 0⟩, filtered := ⟨0, 0, 0⟩ }
    ∧ t.stage = q.stage ∧ t.phase = q.phase ∧ (∀ g, getGen g t = genApply s.par g .run (getGen g q))
    ∧ t.biasL = hpfBias s.par s.biasL m.mixed.l ∧ t.biasR = hpfBias s.par s.biasR m.mixed.r
    ∧ t.biasC = (if s.par.hasCenter then hpfBias s.par s.biasC m.mixed.c else s.biasC)

/-- Each RD.Gg.n returns Gen_g.read(n), records the call and changes nothing else. Rule R146. -/
def Obligations.GeneratorReads : Prop :=
  ∀ x ∈ ([(.rdG10, .g1, 0), (.rdG11, .g1, 1), (.rdG12, .g1, 2), (.rdG13, .g1, 3), (.rdG14, .g1, 4),
      (.rdG20, .g2, 0), (.rdG21, .g2, 1), (.rdG22, .g2, 2), (.rdG23, .g2, 3), (.rdG24, .g2, 4),
      (.rdG30, .g3, 0), (.rdG31, .g3, 1), (.rdG32, .g3, 2), (.rdG33, .g3, 3), (.rdG34, .g3, 4),
      (.rdG40, .g4, 0), (.rdG41, .g4, 1), (.rdG42, .g4, 2), (.rdG43, .g4, 3), (.rdG44, .g4, 4)] : List (Instr × GenId × Nat)),
    ∀ s : State, exec x.1 s = .next { s with
      trace := s.trace ++ [⟨x.2.1, .read x.2.2⟩]
      readLog := s.readLog ++ [some (genRead s.par x.2.1 x.2.2 (getGen x.2.1 s))] }

/-- Each WR.Gg.n calls Gen_g.write(n, d) if the gate is open and does nothing if it is closed. Rule R147. -/
def Obligations.GeneratorWrites : Prop :=
  ∀ (d : Byte) (s : State), ∀ x ∈ ([(.wrG10 d, .g1, 0), (.wrG11 d, .g1, 1), (.wrG12 d, .g1, 2), (.wrG13 d, .g1, 3), (.wrG14 d, .g1, 4),
      (.wrG20 d, .g2, 0), (.wrG21 d, .g2, 1), (.wrG22 d, .g2, 2), (.wrG23 d, .g2, 3), (.wrG24 d, .g2, 4),
      (.wrG30 d, .g3, 0), (.wrG31 d, .g3, 1), (.wrG32 d, .g3, 2), (.wrG33 d, .g3, 3), (.wrG34 d, .g3, 4),
      (.wrG40 d, .g4, 0), (.wrG41 d, .g4, 1), (.wrG42 d, .g4, 2), (.wrG43 d, .g4, 3), (.wrG44 d, .g4, 4)] : List (Instr × GenId × Nat)),
    (s.menable = true → exec x.1 s = .next (setGen x.2.1 (genApply s.par x.2.1 (.write x.2.2 d) (getGen x.2.1 s))
        { s with trace := s.trace ++ [⟨x.2.1, .write x.2.2 d⟩] }))
      ∧ (s.menable = false → exec x.1 s = .next s)

/-- RD.MVOL and RD.MROUTE return all eight bits; RD.MCTRL returns menable and seven ones. Rule R148; R150; R152. -/
def Obligations.MasterRegisterReads : Prop :=
  ∀ s : State,
    exec .rdMvol s = .next { s with readLog := s.readLog ++ [some s.mvol] }
      ∧ exec .rdMroute s = .next { s with readLog := s.readLog ++ [some s.mroute] }
      ∧ exec .rdMctrl s = .next { s with readLog := s.readLog ++ [some (if s.menable then 0xFF else 0x7F)] }

/-- WR.MVOL and WR.MROUTE store the datum if the gate is open; WR.MCTRL always stores bit 7 in menable. Rule R149; R151;
R153. -/
def Obligations.MasterRegisterWrites : Prop :=
  ∀ (s : State) (d : Byte),
    (s.menable = true → exec (.wrMvol d) s = .next { s with mvol := d }
        ∧ exec (.wrMroute d) s = .next { s with mroute := d })
      ∧ (s.menable = false → exec (.wrMvol d) s = .next s ∧ exec (.wrMroute d) s = .next s)
      ∧ exec (.wrMctrl d) s = .next { s with menable := d.getLsbD 7 }

/-- RD.W returns the byte of the raw sample storage; WR.W writes it if the gate is open. Derived from
43_register_dispatcher.md R154, R155, R143. -/
def Obligations.StorageAccesses : Prop :=
  ∀ (s : State) (i : Nat) (d : Byte),
    exec (.rdW i) s = .next { s with
        trace := s.trace ++ [⟨.g3, .readStorage i⟩], readLog := s.readLog ++ [some (genReadStorage i s.gen3)] }
      ∧ (s.menable = true → exec (.wrW i d) s = .next { s with
        gen3 := genApply s.par .g3 (.writeStorage i d) s.gen3, trace := s.trace ++ [⟨.g3, .writeStorage i d⟩] })
      ∧ (s.menable = false → exec (.wrW i d) s = .next s)

/-- A byte written to the extended block is read back there, and the other bytes stay. Derived from
43_register_dispatcher.md R155; 44_generator_interface.md R178, R201. -/
def Obligations.StorageReturnsWhatWasWritten : Prop :=
  ∀ (s : State) (i : Nat) (d : Byte), Inv s → s.menable = true → i < rangeSize s.par.rngW →
    ∃ t u : State, exec (.wrW i d) s = .next t ∧ exec (.rdW i) t = .next u ∧ u.readLog = s.readLog ++ [some d]
      ∧ ∀ j : Nat, j ≠ i → genReadStorage j t.gen3 = genReadStorage j s.gen3

/-- The fill region reads all ones and discards writes, gate open or closed. Rule R156; R157. -/
def Obligations.FillReadsOnesAndDropsWrites : Prop :=
  ∀ (s : State) (a : Nat) (d : Byte),
    exec .rdFill27 s = .next { s with readLog := s.readLog ++ [some 0xFF] }
      ∧ exec (.rdFill28 a) s = .next { s with readLog := s.readLog ++ [some 0xFF] }
      ∧ exec (.wrFill27 d) s = .next s ∧ exec (.wrFill28 a d) s = .next s

/-- No operation of the block can fail: exec always gives a next state. Rule R240. -/
def Obligations.NoOperationStops : Prop :=
  ∀ (i : Instr) (s : State), ∃ t : State, exec i s = .next t

/-- Which operations can change the sequencer, the gate, the master registers, the accumulators and the host's state.
Derived from 40_frame_sequencer.md R100; 10_state.md R22, R23, R26 to R30; 42_dc_filter.md R135;
43_register_dispatcher.md R145. The model's own choices in it: log 15, 16, 25. -/
def Obligations.WhoMayWriteWhat : Prop :=
  ∀ (i : Instr) (s t : State), exec i s = .next t →
    (i ∉ [Instr.cycle, .seq, .reset] → t.stage = s.stage ∧ t.phase = s.phase)
      ∧ (i ∉ [Instr.cycle, .hpf, .reset] → t.biasL = s.biasL ∧ t.biasR = s.biasR ∧ t.biasC = s.biasC)
      ∧ ((∀ d, i ≠ .wrMctrl d) → i ≠ .reset → t.menable = s.menable)
      ∧ ((∀ d, i ≠ .wrMvol d) → i ≠ .reset → t.mvol = s.mvol)
      ∧ ((∀ d, i ≠ .wrMroute d) → i ≠ .reset → t.mroute = s.mroute)
      ∧ (i ∉ [Instr.cycle, .emit, .reset] → t.samples = s.samples)
      ∧ (i ≠ .reset → t.clock = s.clock ∧ t.resumePt = s.resumePt ∧ t.suspended = s.suspended ∧ t.sync = s.sync
          ∧ t.exits = s.exits ∧ t.hostFault = s.hostFault)
      ∧ t.par = s.par ∧ t.pending = s.pending

/-- RESET sets every field to its reset value. Derived from 70_reset_and_hazards.md R260. The model's own choices in it:
log 6, 15, 16, 20, 25. -/
def Obligations.ResetSetsEveryField : Prop :=
  ∀ s : State, exec .reset s = .next
    { par := s.par, stage := 0, phase := 0, menable := false, mvol := 0x00, mroute := 0x00, biasL := 0, biasR := 0, biasC := 0,
      gen1 := genPower s.par .g1 s.gen1, gen2 := genPower s.par .g2 s.gen2, gen3 := genPower s.par .g3 s.gen3,
      gen4 := genPower s.par .g4 s.gen4, clock := 0, resumePt := .atTop, suspended := true, sync := .normal,
      mixed := ⟨0, 0, 0⟩, filtered := ⟨0, 0, 0⟩, samples := [], readLog := [], trace := [], exits := [],
      hostFault := none, pending := s.pending }

/-- Under REF with RefGen generators RESET gives State.reset from every state; power-on is zero and WAVE_INIT. Derived
from 70_reset_and_hazards.md R260, R261; 44_generator_interface.md R172, R193. The model's own choices in it: log 3,
6, 15, 16, 20, 25. -/
def Obligations.ResetGivesTheResetState : Prop :=
  (∀ s : State, s.par = Params.ref → (∀ g, ∃ r, getGen g s = .refGen r) →
      exec .reset s = .next { State.reset with pending := s.pending })
    ∧ (∀ (p : Params) (g : GenId) (r : RefGen), genPower p g (.refGen r) = .refGen
        { r0 := 0, r1 := 0, r2 := 0, r3 := 0, active := false, lenMode := false, len := 0, vol := 0, envCnt := 0,
          freq := 0, swCnt := 0, smp := 0, store := if g = .g3 then p.waveInit else [] })
    ∧ ∀ (p : Params) (g : GenId) (c : ContractGen), ∃ c', genPower p g (.unknown c) = .unknown c'
      ∧ c'.active = false ∧ c'.dac = false ∧ genSample p (.unknown c') = 0
      ∧ c'.ctl =
        { len := 0, lenMode := false, vol := 0, envCnt := 0, envUp := false, freq := 0, swCnt := 0, swDown := false, swShift := 0 }
      ∧ c'.store = if g = .g3 then p.waveInit else []

/-- What is observable right after RESET under REF with RefGen, and the first cycle. Derived from
70_reset_and_hazards.md R263; 95_test_vectors.md A2. -/
def Obligations.ReadsRightAfterReset : Prop :=
  peek 0xFF26 State.reset = some 0x7F ∧ peek 0xFF24 State.reset = some 0x00 ∧ peek 0xFF25 State.reset = some 0x00
    ∧ (∀ a ∈ [0xFF27, 0xFF28, 0xFF29, 0xFF2A, 0xFF2B, 0xFF2C, 0xFF2D, 0xFF2E, 0xFF2F], peek a State.reset = some 0xFF)
    ∧ (∀ i : Nat, i < 16 → peek (0xFF30 + i) State.reset = some (Config.waveInit i))
    ∧ (∀ a ∈ [0xFF10, 0xFF11, 0xFF12, 0xFF13, 0xFF16, 0xFF17, 0xFF18, 0xFF1A, 0xFF1B, 0xFF1C, 0xFF1D, 0xFF1F, 0xFF20, 0xFF21,
        0xFF22], peek a State.reset = some 0x00)
    ∧ peek 0xFF15 State.reset = some 0xFF
    ∧ (∀ a ∈ [0xFF14, 0xFF19, 0xFF1E, 0xFF23], peek a State.reset = some 0xB8)
    ∧ peek 0xFF0F State.reset = none ∧ peek 0xFF40 State.reset = none
    ∧ ∃ t : State, exec .cycle State.reset = .next t ∧ t.samples = [⟨0, 0, none⟩]
      ∧ t.trace.take 4 = [⟨.g1, .clockLength⟩, ⟨.g2, .clockLength⟩, ⟨.g3, .clockLength⟩, ⟨.g4, .clockLength⟩]

/-- The machine invariant holds in the reset state, and its parameters are well-formed. Derived from 10_state.md R37;
70_reset_and_hazards.md R261. The model's own choices in it: log 6, 20, 25. -/
def Obligations.InvariantHoldsAtReset : Prop :=
  Inv State.reset ∧ paramsOk State.reset = true

/-- Every step from every state that meets the invariant gives a state that meets it. Derived from 10_state.md R37;
42_dc_filter.md R130; 20_memory.md R61; 46_scheduler_adapter.md R228; 44_generator_interface.md R178, R179, R183,
R192, R196; 60_exceptions.md R241; 70_reset_and_hazards.md R260. The model's own choices in it: log 4, 6, 20, 25,
27. -/
def Obligations.EveryStepKeepsTheInvariant : Prop :=
  ∀ s t : State, Inv s → step s = .next t → Inv t ∧ t.par = s.par

/-- A length of N in length-limited mode is silenced by exactly the N-th length clock; without the mode never; a
disabled generator ignores the clock. Derived from 40_frame_sequencer.md R93; 44_generator_interface.md R180, R198.
The model's own choices in it: log 4, 27. -/
def Obligations.LengthCounterSilencesOnTime : Prop :=
  ∀ (s : State) (g : GenId) (k : Nat),
    (∀ r : RefGen, getGen g s = .refGen r → ∃ (t : State) (r' : RefGen),
        runInstrs (List.replicate k .clkLen) s = .next t ∧ getGen g t = .refGen r'
          ∧ r' = { r with len := r'.len, active := r'.active }
          ∧ (r.active = false → r' = r) ∧ (r.active = true → r.len = 0 → r' = r)
          ∧ (r.active = true → r.lenMode = true → 1 ≤ r.len.toNat →
              r'.len.toNat = r.len.toNat - k ∧ r'.active = decide (k < r.len.toNat))
          ∧ (r.active = true → r.lenMode = false → r'.len.toNat = r.len.toNat - k ∧ r'.active = true))
      ∧ ∀ c : ContractGen, getGen g s = .unknown c → ∃ (t : State) (c' : ContractGen),
        runInstrs (List.replicate k .clkLen) s = .next t ∧ getGen g t = .unknown c'
          ∧ (c.active = false → c' = c)
          ∧ (c.active = true → c.ctl.lenMode = true → 1 ≤ c.ctl.len →
              c'.ctl.len = c.ctl.len - k ∧ c'.active = decide (k < c.ctl.len))
          ∧ (c.active = true → c.ctl.lenMode = false → c'.active = true ∧ (k ≤ c.ctl.len → c'.ctl.len = c.ctl.len - k))

/-- Any number of envelope clocks moves the volume one way only, never past 15 or 0, and a RefGen period of 0 stops it.
Derived from 44_generator_interface.md R181, R199. The model's own choices in it: log 4, 27. -/
def Obligations.EnvelopeMovesOneWayAndClamps : Prop :=
  ∀ (s : State) (g : GenId) (n : Nat), g ≠ .g3 →
    (∀ r : RefGen, getGen g s = .refGen r → ∃ (t : State) (r' : RefGen),
        runInstrs (List.replicate n .clkEnv) s = .next t ∧ getGen g t = .refGen r'
          ∧ r' = { r with envCnt := r'.envCnt, vol := r'.vol }
          ∧ (r.r2.getLsbD 3 = true → r.vol.toNat ≤ r'.vol.toNat ∧ r'.vol.toNat ≤ r.vol.toNat + n)
          ∧ (r.r2.getLsbD 3 = false → r'.vol.toNat ≤ r.vol.toNat ∧ r.vol.toNat ≤ r'.vol.toNat + n)
          ∧ (r.r2.extractLsb' 0 3 = 0 → r'.vol = r.vol))
      ∧ ∀ c : ContractGen, getGen g s = .unknown c → ∃ (t : State) (c' : ContractGen),
        runInstrs (List.replicate n .clkEnv) s = .next t ∧ getGen g t = .unknown c'
          ∧ c'.active = c.active ∧ c'.ctl.envUp = c.ctl.envUp ∧ c'.ctl.len = c.ctl.len ∧ c'.smp = c.smp
          ∧ (c.ctl.envUp = true → c.ctl.vol.toNat ≤ c'.ctl.vol.toNat ∧ c'.ctl.vol.toNat ≤ c.ctl.vol.toNat + n)
          ∧ (c.ctl.envUp = false → c'.ctl.vol.toNat ≤ c.ctl.vol.toNat ∧ c.ctl.vol.toNat ≤ c'.ctl.vol.toNat + n)

/-- With period p and a freshly loaded counter the first volume step happens at the p-th envelope clock. Derived from
44_generator_interface.md R199. -/
def Obligations.EnvelopeStepsAtItsPeriod : Prop :=
  ∀ (s : State) (g : GenId) (r : RefGen) (k : Nat), g ≠ .g3 → getGen g s = .refGen r →
    r.r2.extractLsb' 0 3 ≠ 0 → r.envCnt = r.r2.extractLsb' 0 3 → k ≤ r.envCnt.toNat →
    ∃ (t : State) (r' : RefGen), runInstrs (List.replicate k .clkEnv) s = .next t ∧ getGen g t = .refGen r'
      ∧ (k < r.envCnt.toNat → r'.vol = r.vol ∧ r'.envCnt.toNat = r.envCnt.toNat - k)
      ∧ (k = r.envCnt.toNat → r'.envCnt = r.envCnt
          ∧ r'.vol.toNat = if r.r2.getLsbD 3 then min 15 (r.vol.toNat + 1) else r.vol.toNat - 1)

/-- The sweep clock counts down, then moves the frequency up or down, or disables the channel on overflow. Derived from
44_generator_interface.md R182, R200. The model's own choices in it: log 4, 18, 27. -/
def Obligations.SweepStepOrDisable : Prop :=
  (∀ (s : State) (r : RefGen), s.gen1 = .refGen r →
      let p : BitVec 3 := r.r0.extractLsb' 4 3
      let f := r.freq.toNat
      let delta := f / 2 ^ (r.r0.extractLsb' 0 3).toNat
      ∃ (t : State) (r' : RefGen), exec .clkSwp s = .next t ∧ t.gen1 = .refGen r'
        ∧ (r.active = false ∨ p = 0 → r' = r)
        ∧ (r.active = true → p ≠ 0 → 1 < r.swCnt.toNat →
            r' = { r with swCnt := r'.swCnt } ∧ r'.swCnt.toNat = r.swCnt.toNat - 1)
        ∧ (r.active = true → p ≠ 0 → r.swCnt.toNat ≤ 1 →
            r' = { r with swCnt := p, freq := r'.freq, active := r'.active }
              ∧ (r.r0.getLsbD 3 = true → r'.freq.toNat = f - delta ∧ r'.active = true)
              ∧ (r.r0.getLsbD 3 = false → s.par.freqMax < f + delta → r'.freq = r.freq ∧ r'.active = false)
              ∧ (r.r0.getLsbD 3 = false → f + delta ≤ s.par.freqMax →
                r'.active = true ∧ (f + delta ≤ 2047 → r'.freq.toNat = f + delta))))
    ∧ ∀ (s : State) (c : ContractGen), s.gen1 = .unknown c →
      let fs := Config.genSweepComputed s.par (.clockSweep :: c.wave) c.ctl
      ∃ (t : State) (c' : ContractGen), exec .clkSwp s = .next t ∧ t.gen1 = .unknown c'
        ∧ (c'.active = true ↔ c.active = true ∧ ∀ f ∈ fs, f ≤ s.par.freqMax)
        ∧ (c'.ctl.freq = match fs with
            | [] => c.ctl.freq
            | f :: _ => if s.par.freqMax < f then c'.ctl.freq else f)
        ∧ c'.ctl.len = c.ctl.len ∧ c'.ctl.vol = c.ctl.vol

/-- Writing the trigger bit reloads the counters and reactivates the channel, unless its enable register is off. Derived
from 44_generator_interface.md R179, R183, R195, R196. The model's own choices in it: log 4, 27. -/
def Obligations.TriggerReloadsTheCounters : Prop :=
  (∀ (s : State) (d : Byte) (r : RefGen), s.menable = true → d.getLsbD 7 = true →
      ∀ x ∈ ([(.wrG14 d, .g1), (.wrG24 d, .g2), (.wrG34 d, .g3), (.wrG44 d, .g4)] : List (Instr × GenId)),
        getGen x.2 s = .refGen r → ∃ t : State, exec x.1 s = .next t ∧ getGen x.2 t = .refGen
          { r with
            len := r.r1, vol := r.r2.extractLsb' 4 4, envCnt := r.r2.extractLsb' 0 3,
            swCnt := if x.2 = .g1 then r.r0.extractLsb' 4 3 else r.swCnt,
            active := if x.2 = .g3 ∨ x.2 = .g4 then r.r0.getLsbD 7 else true,
            lenMode := d.getLsbD 6, freq := d.extractLsb' 0 3 ++ r.freq.extractLsb' 0 8 })
    ∧ ∀ (p : Params) (g : GenId) (off : Nat) (d : Byte) (c : ContractGen),
      ∃ c' : ContractGen, genApply p g (.write off d) (.unknown c) = .unknown c' ∧ c'.smp = c.smp
        ∧ c'.regs = c.regs.set off d ∧ c'.dac = (if off = Config.genEnableOffset p g then Config.genEnables p g d else c.dac)
        ∧ (off = (Config.genTrigger p g).1 → d.getLsbD (Config.genTrigger p g).2.val = true →
            c'.ctl.len = (Config.genLoads p g c'.regs).len ∧ c'.ctl.vol = (Config.genLoads p g c'.regs).vol
              ∧ c'.ctl.envCnt = (Config.genLoads p g c'.regs).envCnt
              ∧ (g = .g1 → c'.ctl.swCnt = (Config.genLoads p g c'.regs).swCnt)
              ∧ (c'.active = true ↔ g = .g1 ∨ g = .g2 ∨ c'.dac = true))
        ∧ (off ≠ (Config.genTrigger p g).1 ∨ d.getLsbD (Config.genTrigger p g).2.val = false → c.active = false →
            c'.active = false)
        ∧ (g = .g3 ∨ g = .g4 → c'.dac = false → c'.active = false)

/-- After RUN a disabled generator presents sample 0; RUN changes no contract field, and an active RefGen presents its
volume. Derived from 44_generator_interface.md R174, R175, R179, R197; 41_mixer.md R115. The model's own choices in
it: log 4, 27. -/
def Obligations.DisabledGeneratorIsSilent : Prop :=
  ∀ (s : State) (g : GenId), ∃ t : State, exec .run s = .next t
    ∧ (∀ r, getGen g s = .refGen r →
        genSample t.par (getGen g t) = (if r.active then r.vol.toNat else 0)
          ∧ ∃ m, getGen g t = .refGen { r with smp := m })
    ∧ (∀ c, getGen g s = .unknown c → ∃ c', getGen g t = .unknown c'
        ∧ c' = { c with smp := c'.smp, wave := .run :: c.wave, fresh := [] }
        ∧ (c.active = false → genSample t.par (getGen g t) = 0))

/-- Write then read of every generator register through the block, gate open and closed: RefGen, and any generator that
meets the contract. Derived from 44_generator_interface.md R184, R192, R194, R195, R202; 43_register_dispatcher.md
R158. The model's own choices in it: log 4, 27. -/
def Obligations.RefGenRegistersRoundTrip : Prop :=
  (∀ (s : State) (d : Byte), (∀ g, ∃ r, getGen g s = .refGen r) →
      ∀ x ∈ ([(.wrG10 d, .rdG10, .g1, 0, d), (.wrG11 d, .rdG11, .g1, 1, d), (.wrG12 d, .rdG12, .g1, 2, d), (.wrG13 d, .rdG13, .g1, 3, d), (.wrG14 d, .rdG14, .g1, 4, d ||| 0xB8),
      (.wrG20 d, .rdG20, .g2, 0, 0xFF), (.wrG21 d, .rdG21, .g2, 1, d), (.wrG22 d, .rdG22, .g2, 2, d), (.wrG23 d, .rdG23, .g2, 3, d), (.wrG24 d, .rdG24, .g2, 4, d ||| 0xB8),
      (.wrG30 d, .rdG30, .g3, 0, d), (.wrG31 d, .rdG31, .g3, 1, d), (.wrG32 d, .rdG32, .g3, 2, d), (.wrG33 d, .rdG33, .g3, 3, d), (.wrG34 d, .rdG34, .g3, 4, d ||| 0xB8),
      (.wrG40 d, .rdG40, .g4, 0, d), (.wrG41 d, .rdG41, .g4, 1, d), (.wrG42 d, .rdG42, .g4, 2, d), (.wrG43 d, .rdG43, .g4, 3, d), (.wrG44 d, .rdG44, .g4, 4, d ||| 0xB8)] : List (Instr × Instr × GenId × Nat × Byte)),
        ∃ t : State, runInstrs [x.1, x.2.1] s = .next t ∧ t.readLog = s.readLog
          ++ [some (if s.menable then x.2.2.2.2 else genRead s.par x.2.2.1 x.2.2.2.1 (getGen x.2.2.1 s))])
    ∧ ∀ (s : State) (d : Byte) (c : ContractGen),
      ∀ x ∈ ([(.wrG10 d, .rdG10, .g1, 0), (.wrG11 d, .rdG11, .g1, 1), (.wrG12 d, .rdG12, .g1, 2), (.wrG13 d, .rdG13, .g1, 3), (.wrG14 d, .rdG14, .g1, 4),
        (.wrG20 d, .rdG20, .g2, 0), (.wrG21 d, .rdG21, .g2, 1), (.wrG22 d, .rdG22, .g2, 2), (.wrG23 d, .rdG23, .g2, 3), (.wrG24 d, .rdG24, .g2, 4),
        (.wrG30 d, .rdG30, .g3, 0), (.wrG31 d, .rdG31, .g3, 1), (.wrG32 d, .rdG32, .g3, 2), (.wrG33 d, .rdG33, .g3, 3), (.wrG34 d, .rdG34, .g3, 4),
        (.wrG40 d, .rdG40, .g4, 0), (.wrG41 d, .rdG41, .g4, 1), (.wrG42 d, .rdG42, .g4, 2), (.wrG43 d, .rdG43, .g4, 3), (.wrG44 d, .rdG44, .g4, 4)] : List (Instr × Instr × GenId × Nat)),
        getGen x.2.2.1 s = .unknown c → x.2.2.2 < c.regs.length →
        ∃ t : State, runInstrs [x.1, x.2.1] s = .next t ∧ t.readLog = s.readLog
          ++ [some (if s.menable then
              (if Config.genPlain s.par x.2.2.1 x.2.2.2 then d else Config.genRead s.par x.2.2.1 (.write x.2.2.2 d :: c.wave) x.2.2.2)
            else genRead s.par x.2.2.1 x.2.2.2 (getGen x.2.2.1 s))]

/-- With sync Normal a RESUME performs exactly max(1, ceil(-clock/CLK_STEP)) cycles and yields to the CPU. Derived from
46_scheduler_adapter.md R221, R226. The model's own choices in it: log 8, 12, 15, 25. -/
def Obligations.ResumeRunsUntilCaughtUp : Prop :=
  ∀ (s : State) (rest : List HostMove), paramsOk s = true → s.hostFault = none → s.suspended = true → s.sync = .normal →
    s.pending = .resume :: rest →
    ∃ t : State, runInstrs (List.replicate (resumeCycles s.par.clkStep s.clock) .cycle) s = .next t
      ∧ step s = .next { t with
          clock := s.clock + (resumeCycles s.par.clkStep s.clock : Int) * (s.par.clkStep : Int), resumePt := .atTop,
          suspended := true, exits := s.exits ++ [.toCPU], pending := rest }

/-- With sync All a RESUME performs no cycle from AtTop and exactly the one in flight after the sync check. Derived from
46_scheduler_adapter.md R221, R226, R227. The model's own choices in it: log 8, 12, 15, 25. -/
def Obligations.ResumeUnderForcedSync : Prop :=
  ∀ (s : State) (rest : List HostMove), paramsOk s = true → s.hostFault = none → s.suspended = true → s.sync = .all →
    s.pending = .resume :: rest →
    (s.resumePt = .atTop → step s = .next { s with
        resumePt := .afterSyncCheck, exits := s.exits ++ [.syncEvent], pending := rest })
      ∧ (s.resumePt = .afterSyncCheck → ∃ t : State, exec .cycle s = .next t
        ∧ step s = .next { t with
            clock := s.clock + (s.par.clkStep : Int), resumePt := .afterSyncCheck, suspended := true,
            exits := s.exits ++ [.syncEvent], pending := rest })

/-- GRANT subtracts from the clock and SYNC sets the mode; nothing else changes. Derived from 46_scheduler_adapter.md
R224, R225. The model's own choices in it: log 8, 25. -/
def Obligations.GrantAndSyncMoves : Prop :=
  ∀ (s : State) (rest : List HostMove), paramsOk s = true → s.hostFault = none → s.suspended = true →
    (∀ n : Nat, s.pending = .grant n :: rest → step s = .next { s with clock := s.clock - (n : Int), pending := rest })
      ∧ ∀ m : SyncMode, s.pending = .sync m :: rest → step s = .next { s with sync := m, pending := rest }

/-- A host that resumes a running context, or moves inside a cycle, faults by cause; the fault is terminal unless RESET
comes next. Derived from 60_exceptions.md R241, R242; 70_reset_and_hazards.md R260. The model's own choices in it:
log 12, 25. -/
def Obligations.MovesInsideACycleFault : Prop :=
  (∀ s : State, resetNext s = true ↔ ∃ w rest, s.pending = .cmd w :: rest ∧ decode s.par w = .ok (.instr .reset))
    ∧ (∀ (s : State) (rest : List HostMove), paramsOk s = true → s.hostFault = none →
      let violation (c : HostCause) (t : State) : Host.Outcome State Fault Refusal :=
        if resetNext t then .next { t with hostFault := some c } else .fault (.hostInvariantViolation c)
      (s.suspended = false →
          (s.pending = .resume :: rest → step s = violation .resumeOfRunningContext { s with pending := rest })
            ∧ (∀ n, s.pending = .grant n :: rest → step s = violation .accessDuringCycle { s with pending := rest })
            ∧ (∀ m, s.pending = .sync m :: rest → step s = violation .accessDuringCycle { s with pending := rest })
            ∧ (∀ a, a < 2 ^ s.par.addrBits → s.pending = .cmd (encodeCmd s.par (.rd a)) :: rest →
                step s = violation .accessDuringCycle { s with pending := rest })
            ∧ ∀ a d, a < 2 ^ s.par.addrBits → s.pending = .cmd (encodeCmd s.par (.wr a d)) :: rest →
                step s = violation .accessDuringCycle { s with pending := rest })
        ∧ ∀ m : Intrusion, s.pending = .intrude m :: rest → step s = violation
            (match m with
              | .resume => .resumeOfRunningContext
              | .rd _ | .wr _ _ | .grant _ | .sync _ => .accessDuringCycle)
            { s with pending := rest, suspended := false })
    ∧ ∀ (s : State) (c : HostCause), paramsOk s = true → s.hostFault = some c →
      (resetNext s = false → step s = .fault (.hostInvariantViolation c))
        ∧ ∀ (w : Nat) (rest : List HostMove), s.pending = .cmd w :: rest → decode s.par w = .ok (.instr .reset) →
          step s = exec .reset { s with pending := rest }

/-- With well-formed parameters and a host that keeps the rules every step answers a next state, with the context
suspended. Derived from 60_exceptions.md R240, R241; 46_scheduler_adapter.md R226; 20_memory.md R66. The model's own
choices in it: log 8, 12, 25. -/
def Obligations.LawfulHostNeverStops : Prop :=
  ∀ s : State, paramsOk s = true → s.hostFault = none → s.suspended = true → (∀ m ∈ s.pending.head?, m.lawful s.par) →
    ∃ t : State, step s = .next t ∧ t.suspended = true ∧ t.hostFault = none
end

