-- ==== Sys2Proof/Laws/State.lean ====
section
/-! SUPPORT. What each shared update leaves unchanged, one lemma for each field, and what it does to the field it writes.
Later proofs cite these and unfold no record update. -/

namespace Sys2Proof.Machine

variable (s : State)

@[simp] theorem setGen_par (g : GenId) (x : GenState) : (setGen g x s).par = s.par := by cases g <;> rfl
@[simp] theorem setGen_stage (g : GenId) (x : GenState) : (setGen g x s).stage = s.stage := by cases g <;> rfl
@[simp] theorem setGen_phase (g : GenId) (x : GenState) : (setGen g x s).phase = s.phase := by cases g <;> rfl
@[simp] theorem setGen_menable (g : GenId) (x : GenState) : (setGen g x s).menable = s.menable := by cases g <;> rfl
@[simp] theorem setGen_mvol (g : GenId) (x : GenState) : (setGen g x s).mvol = s.mvol := by cases g <;> rfl
@[simp] theorem setGen_mroute (g : GenId) (x : GenState) : (setGen g x s).mroute = s.mroute := by cases g <;> rfl
@[simp] theorem setGen_biasL (g : GenId) (x : GenState) : (setGen g x s).biasL = s.biasL := by cases g <;> rfl
@[simp] theorem setGen_biasR (g : GenId) (x : GenState) : (setGen g x s).biasR = s.biasR := by cases g <;> rfl
@[simp] theorem setGen_biasC (g : GenId) (x : GenState) : (setGen g x s).biasC = s.biasC := by cases g <;> rfl
@[simp] theorem setGen_clock (g : GenId) (x : GenState) : (setGen g x s).clock = s.clock := by cases g <;> rfl
@[simp] theorem setGen_resumePt (g : GenId) (x : GenState) : (setGen g x s).resumePt = s.resumePt := by cases g <;> rfl
@[simp] theorem setGen_suspended (g : GenId) (x : GenState) : (setGen g x s).suspended = s.suspended := by cases g <;> rfl
@[simp] theorem setGen_sync (g : GenId) (x : GenState) : (setGen g x s).sync = s.sync := by cases g <;> rfl
@[simp] theorem setGen_mixed (g : GenId) (x : GenState) : (setGen g x s).mixed = s.mixed := by cases g <;> rfl
@[simp] theorem setGen_filtered (g : GenId) (x : GenState) : (setGen g x s).filtered = s.filtered := by cases g <;> rfl
@[simp] theorem setGen_samples (g : GenId) (x : GenState) : (setGen g x s).samples = s.samples := by cases g <;> rfl
@[simp] theorem setGen_readLog (g : GenId) (x : GenState) : (setGen g x s).readLog = s.readLog := by cases g <;> rfl
@[simp] theorem setGen_trace (g : GenId) (x : GenState) : (setGen g x s).trace = s.trace := by cases g <;> rfl
@[simp] theorem setGen_exits (g : GenId) (x : GenState) : (setGen g x s).exits = s.exits := by cases g <;> rfl
@[simp] theorem setGen_hostFault (g : GenId) (x : GenState) : (setGen g x s).hostFault = s.hostFault := by cases g <;> rfl
@[simp] theorem setGen_pending (g : GenId) (x : GenState) : (setGen g x s).pending = s.pending := by cases g <;> rfl

@[simp] theorem logCall_par (g : GenId) (op : GenOp) : (logCall g op s).par = s.par := rfl
@[simp] theorem logCall_stage (g : GenId) (op : GenOp) : (logCall g op s).stage = s.stage := rfl
@[simp] theorem logCall_phase (g : GenId) (op : GenOp) : (logCall g op s).phase = s.phase := rfl
@[simp] theorem logCall_menable (g : GenId) (op : GenOp) : (logCall g op s).menable = s.menable := rfl
@[simp] theorem logCall_mvol (g : GenId) (op : GenOp) : (logCall g op s).mvol = s.mvol := rfl
@[simp] theorem logCall_mroute (g : GenId) (op : GenOp) : (logCall g op s).mroute = s.mroute := rfl
@[simp] theorem logCall_biasL (g : GenId) (op : GenOp) : (logCall g op s).biasL = s.biasL := rfl
@[simp] theorem logCall_biasR (g : GenId) (op : GenOp) : (logCall g op s).biasR = s.biasR := rfl
@[simp] theorem logCall_biasC (g : GenId) (op : GenOp) : (logCall g op s).biasC = s.biasC := rfl
@[simp] theorem logCall_gen1 (g : GenId) (op : GenOp) : (logCall g op s).gen1 = s.gen1 := rfl
@[simp] theorem logCall_gen2 (g : GenId) (op : GenOp) : (logCall g op s).gen2 = s.gen2 := rfl
@[simp] theorem logCall_gen3 (g : GenId) (op : GenOp) : (logCall g op s).gen3 = s.gen3 := rfl
@[simp] theorem logCall_gen4 (g : GenId) (op : GenOp) : (logCall g op s).gen4 = s.gen4 := rfl
@[simp] theorem logCall_clock (g : GenId) (op : GenOp) : (logCall g op s).clock = s.clock := rfl
@[simp] theorem logCall_resumePt (g : GenId) (op : GenOp) : (logCall g op s).resumePt = s.resumePt := rfl
@[simp] theorem logCall_suspended (g : GenId) (op : GenOp) : (logCall g op s).suspended = s.suspended := rfl
@[simp] theorem logCall_sync (g : GenId) (op : GenOp) : (logCall g op s).sync = s.sync := rfl
@[simp] theorem logCall_mixed (g : GenId) (op : GenOp) : (logCall g op s).mixed = s.mixed := rfl
@[simp] theorem logCall_filtered (g : GenId) (op : GenOp) : (logCall g op s).filtered = s.filtered := rfl
@[simp] theorem logCall_samples (g : GenId) (op : GenOp) : (logCall g op s).samples = s.samples := rfl
@[simp] theorem logCall_readLog (g : GenId) (op : GenOp) : (logCall g op s).readLog = s.readLog := rfl
@[simp] theorem logCall_exits (g : GenId) (op : GenOp) : (logCall g op s).exits = s.exits := rfl
@[simp] theorem logCall_hostFault (g : GenId) (op : GenOp) : (logCall g op s).hostFault = s.hostFault := rfl
@[simp] theorem logCall_pending (g : GenId) (op : GenOp) : (logCall g op s).pending = s.pending := rfl

@[simp] theorem respond_par (v : Option Byte) : (respond v s).par = s.par := rfl
@[simp] theorem respond_stage (v : Option Byte) : (respond v s).stage = s.stage := rfl
@[simp] theorem respond_phase (v : Option Byte) : (respond v s).phase = s.phase := rfl
@[simp] theorem respond_menable (v : Option Byte) : (respond v s).menable = s.menable := rfl
@[simp] theorem respond_mvol (v : Option Byte) : (respond v s).mvol = s.mvol := rfl
@[simp] theorem respond_mroute (v : Option Byte) : (respond v s).mroute = s.mroute := rfl
@[simp] theorem respond_biasL (v : Option Byte) : (respond v s).biasL = s.biasL := rfl
@[simp] theorem respond_biasR (v : Option Byte) : (respond v s).biasR = s.biasR := rfl
@[simp] theorem respond_biasC (v : Option Byte) : (respond v s).biasC = s.biasC := rfl
@[simp] theorem respond_gen1 (v : Option Byte) : (respond v s).gen1 = s.gen1 := rfl
@[simp] theorem respond_gen2 (v : Option Byte) : (respond v s).gen2 = s.gen2 := rfl
@[simp] theorem respond_gen3 (v : Option Byte) : (respond v s).gen3 = s.gen3 := rfl
@[simp] theorem respond_gen4 (v : Option Byte) : (respond v s).gen4 = s.gen4 := rfl
@[simp] theorem respond_clock (v : Option Byte) : (respond v s).clock = s.clock := rfl
@[simp] theorem respond_resumePt (v : Option Byte) : (respond v s).resumePt = s.resumePt := rfl
@[simp] theorem respond_suspended (v : Option Byte) : (respond v s).suspended = s.suspended := rfl
@[simp] theorem respond_sync (v : Option Byte) : (respond v s).sync = s.sync := rfl
@[simp] theorem respond_mixed (v : Option Byte) : (respond v s).mixed = s.mixed := rfl
@[simp] theorem respond_filtered (v : Option Byte) : (respond v s).filtered = s.filtered := rfl
@[simp] theorem respond_samples (v : Option Byte) : (respond v s).samples = s.samples := rfl
@[simp] theorem respond_trace (v : Option Byte) : (respond v s).trace = s.trace := rfl
@[simp] theorem respond_exits (v : Option Byte) : (respond v s).exits = s.exits := rfl
@[simp] theorem respond_hostFault (v : Option Byte) : (respond v s).hostFault = s.hostFault := rfl
@[simp] theorem respond_pending (v : Option Byte) : (respond v s).pending = s.pending := rfl

@[simp] theorem setMenable_par (d : Byte) : (setMenable d s).par = s.par := rfl
@[simp] theorem setMenable_stage (d : Byte) : (setMenable d s).stage = s.stage := rfl
@[simp] theorem setMenable_phase (d : Byte) : (setMenable d s).phase = s.phase := rfl
@[simp] theorem setMenable_mvol (d : Byte) : (setMenable d s).mvol = s.mvol := rfl
@[simp] theorem setMenable_mroute (d : Byte) : (setMenable d s).mroute = s.mroute := rfl
@[simp] theorem setMenable_biasL (d : Byte) : (setMenable d s).biasL = s.biasL := rfl
@[simp] theorem setMenable_biasR (d : Byte) : (setMenable d s).biasR = s.biasR := rfl
@[simp] theorem setMenable_biasC (d : Byte) : (setMenable d s).biasC = s.biasC := rfl
@[simp] theorem setMenable_gen1 (d : Byte) : (setMenable d s).gen1 = s.gen1 := rfl
@[simp] theorem setMenable_gen2 (d : Byte) : (setMenable d s).gen2 = s.gen2 := rfl
@[simp] theorem setMenable_gen3 (d : Byte) : (setMenable d s).gen3 = s.gen3 := rfl
@[simp] theorem setMenable_gen4 (d : Byte) : (setMenable d s).gen4 = s.gen4 := rfl
@[simp] theorem setMenable_clock (d : Byte) : (setMenable d s).clock = s.clock := rfl
@[simp] theorem setMenable_resumePt (d : Byte) : (setMenable d s).resumePt = s.resumePt := rfl
@[simp] theorem setMenable_suspended (d : Byte) : (setMenable d s).suspended = s.suspended := rfl
@[simp] theorem setMenable_sync (d : Byte) : (setMenable d s).sync = s.sync := rfl
@[simp] theorem setMenable_mixed (d : Byte) : (setMenable d s).mixed = s.mixed := rfl
@[simp] theorem setMenable_filtered (d : Byte) : (setMenable d s).filtered = s.filtered := rfl
@[simp] theorem setMenable_samples (d : Byte) : (setMenable d s).samples = s.samples := rfl
@[simp] theorem setMenable_readLog (d : Byte) : (setMenable d s).readLog = s.readLog := rfl
@[simp] theorem setMenable_trace (d : Byte) : (setMenable d s).trace = s.trace := rfl
@[simp] theorem setMenable_exits (d : Byte) : (setMenable d s).exits = s.exits := rfl
@[simp] theorem setMenable_hostFault (d : Byte) : (setMenable d s).hostFault = s.hostFault := rfl
@[simp] theorem setMenable_pending (d : Byte) : (setMenable d s).pending = s.pending := rfl

@[simp] theorem suspendWith_par (e : Suspension) : (suspendWith e s).par = s.par := rfl
@[simp] theorem suspendWith_stage (e : Suspension) : (suspendWith e s).stage = s.stage := rfl
@[simp] theorem suspendWith_phase (e : Suspension) : (suspendWith e s).phase = s.phase := rfl
@[simp] theorem suspendWith_menable (e : Suspension) : (suspendWith e s).menable = s.menable := rfl
@[simp] theorem suspendWith_mvol (e : Suspension) : (suspendWith e s).mvol = s.mvol := rfl
@[simp] theorem suspendWith_mroute (e : Suspension) : (suspendWith e s).mroute = s.mroute := rfl
@[simp] theorem suspendWith_biasL (e : Suspension) : (suspendWith e s).biasL = s.biasL := rfl
@[simp] theorem suspendWith_biasR (e : Suspension) : (suspendWith e s).biasR = s.biasR := rfl
@[simp] theorem suspendWith_biasC (e : Suspension) : (suspendWith e s).biasC = s.biasC := rfl
@[simp] theorem suspendWith_gen1 (e : Suspension) : (suspendWith e s).gen1 = s.gen1 := rfl
@[simp] theorem suspendWith_gen2 (e : Suspension) : (suspendWith e s).gen2 = s.gen2 := rfl
@[simp] theorem suspendWith_gen3 (e : Suspension) : (suspendWith e s).gen3 = s.gen3 := rfl
@[simp] theorem suspendWith_gen4 (e : Suspension) : (suspendWith e s).gen4 = s.gen4 := rfl
@[simp] theorem suspendWith_clock (e : Suspension) : (suspendWith e s).clock = s.clock := rfl
@[simp] theorem suspendWith_resumePt (e : Suspension) : (suspendWith e s).resumePt = s.resumePt := rfl
@[simp] theorem suspendWith_sync (e : Suspension) : (suspendWith e s).sync = s.sync := rfl
@[simp] theorem suspendWith_mixed (e : Suspension) : (suspendWith e s).mixed = s.mixed := rfl
@[simp] theorem suspendWith_filtered (e : Suspension) : (suspendWith e s).filtered = s.filtered := rfl
@[simp] theorem suspendWith_samples (e : Suspension) : (suspendWith e s).samples = s.samples := rfl
@[simp] theorem suspendWith_readLog (e : Suspension) : (suspendWith e s).readLog = s.readLog := rfl
@[simp] theorem suspendWith_trace (e : Suspension) : (suspendWith e s).trace = s.trace := rfl
@[simp] theorem suspendWith_hostFault (e : Suspension) : (suspendWith e s).hostFault = s.hostFault := rfl
@[simp] theorem suspendWith_pending (e : Suspension) : (suspendWith e s).pending = s.pending := rfl

@[simp] theorem logCall_trace (g : GenId) (op : GenOp) : (logCall g op s).trace = s.trace ++ [⟨g, op⟩] := rfl
@[simp] theorem respond_readLog (v : Option Byte) : (respond v s).readLog = s.readLog ++ [v] := rfl
@[simp] theorem setMenable_menable (d : Byte) : (setMenable d s).menable = d.getLsbD 7 := rfl
@[simp] theorem suspendWith_suspended (e : Suspension) : (suspendWith e s).suspended = true := rfl
@[simp] theorem suspendWith_exits (e : Suspension) : (suspendWith e s).exits = s.exits ++ [e] := rfl

@[simp] theorem getGen_setGen_same (g : GenId) (x : GenState) : getGen g (setGen g x s) = x := by cases g <;> rfl

@[simp] theorem getGen_setGen_other (g h : GenId) (x : GenState) (ne : h ≠ g) : getGen h (setGen g x s) = getGen h s := by
  cases g <;> cases h <;> first | rfl | exact absurd rfl ne

@[simp] theorem getGen_logCall (g h : GenId) (op : GenOp) : getGen h (logCall g op s) = getGen h s := by cases h <;> rfl
@[simp] theorem getGen_respond (h : GenId) (v : Option Byte) : getGen h (respond v s) = getGen h s := by cases h <;> rfl

@[simp] theorem callGen_par (g : GenId) (op : GenOp) : (callGen g op s).par = s.par := by simp [callGen]
@[simp] theorem callGen_stage (g : GenId) (op : GenOp) : (callGen g op s).stage = s.stage := by simp [callGen]
@[simp] theorem callGen_phase (g : GenId) (op : GenOp) : (callGen g op s).phase = s.phase := by simp [callGen]
@[simp] theorem callGen_menable (g : GenId) (op : GenOp) : (callGen g op s).menable = s.menable := by simp [callGen]
@[simp] theorem callGen_mvol (g : GenId) (op : GenOp) : (callGen g op s).mvol = s.mvol := by simp [callGen]
@[simp] theorem callGen_mroute (g : GenId) (op : GenOp) : (callGen g op s).mroute = s.mroute := by simp [callGen]
@[simp] theorem callGen_biasL (g : GenId) (op : GenOp) : (callGen g op s).biasL = s.biasL := by simp [callGen]
@[simp] theorem callGen_biasR (g : GenId) (op : GenOp) : (callGen g op s).biasR = s.biasR := by simp [callGen]
@[simp] theorem callGen_biasC (g : GenId) (op : GenOp) : (callGen g op s).biasC = s.biasC := by simp [callGen]
@[simp] theorem callGen_clock (g : GenId) (op : GenOp) : (callGen g op s).clock = s.clock := by simp [callGen]
@[simp] theorem callGen_resumePt (g : GenId) (op : GenOp) : (callGen g op s).resumePt = s.resumePt := by simp [callGen]
@[simp] theorem callGen_suspended (g : GenId) (op : GenOp) : (callGen g op s).suspended = s.suspended := by simp [callGen]
@[simp] theorem callGen_sync (g : GenId) (op : GenOp) : (callGen g op s).sync = s.sync := by simp [callGen]
@[simp] theorem callGen_mixed (g : GenId) (op : GenOp) : (callGen g op s).mixed = s.mixed := by simp [callGen]
@[simp] theorem callGen_filtered (g : GenId) (op : GenOp) : (callGen g op s).filtered = s.filtered := by simp [callGen]
@[simp] theorem callGen_samples (g : GenId) (op : GenOp) : (callGen g op s).samples = s.samples := by simp [callGen]
@[simp] theorem callGen_readLog (g : GenId) (op : GenOp) : (callGen g op s).readLog = s.readLog := by simp [callGen]
@[simp] theorem callGen_exits (g : GenId) (op : GenOp) : (callGen g op s).exits = s.exits := by simp [callGen]
@[simp] theorem callGen_hostFault (g : GenId) (op : GenOp) : (callGen g op s).hostFault = s.hostFault := by simp [callGen]
@[simp] theorem callGen_pending (g : GenId) (op : GenOp) : (callGen g op s).pending = s.pending := by simp [callGen]

@[simp] theorem callGen_trace (g : GenId) (op : GenOp) : (callGen g op s).trace = s.trace ++ [⟨g, op⟩] := by simp [callGen]

@[simp] theorem getGen_callGen_same (g : GenId) (op : GenOp) :
    getGen g (callGen g op s) = genApply s.par g op (getGen g s) := by simp [callGen]

@[simp] theorem getGen_callGen_other (g h : GenId) (op : GenOp) (ne : h ≠ g) : getGen h (callGen g op s) = getGen h s := by
  simp [callGen, ne]

@[simp] theorem callAll_nil (op : GenOp) : callAll [] op s = s := rfl

@[simp] theorem callAll_cons (g : GenId) (gs : List GenId) (op : GenOp) :
    callAll (g :: gs) op s = callAll gs op (callGen g op s) := rfl

@[simp] theorem callAll_par (gs : List GenId) (op : GenOp) : (callAll gs op s).par = s.par := by
  induction gs generalizing s with
  | nil => rfl
  | cons g gs ih => simp [ih]
@[simp] theorem callAll_stage (gs : List GenId) (op : GenOp) : (callAll gs op s).stage = s.stage := by
  induction gs generalizing s with
  | nil => rfl
  | cons g gs ih => simp [ih]
@[simp] theorem callAll_phase (gs : List GenId) (op : GenOp) : (callAll gs op s).phase = s.phase := by
  induction gs generalizing s with
  | nil => rfl
  | cons g gs ih => simp [ih]
@[simp] theorem callAll_menable (gs : List GenId) (op : GenOp) : (callAll gs op s).menable = s.menable := by
  induction gs generalizing s with
  | nil => rfl
  | cons g gs ih => simp [ih]
@[simp] theorem callAll_mvol (gs : List GenId) (op : GenOp) : (callAll gs op s).mvol = s.mvol := by
  induction gs generalizing s with
  | nil => rfl
  | cons g gs ih => simp [ih]
@[simp] theorem callAll_mroute (gs : List GenId) (op : GenOp) : (callAll gs op s).mroute = s.mroute := by
  induction gs generalizing s with
  | nil => rfl
  | cons g gs ih => simp [ih]
@[simp] theorem callAll_biasL (gs : List GenId) (op : GenOp) : (callAll gs op s).biasL = s.biasL := by
  induction gs generalizing s with
  | nil => rfl
  | cons g gs ih => simp [ih]
@[simp] theorem callAll_biasR (gs : List GenId) (op : GenOp) : (callAll gs op s).biasR = s.biasR := by
  induction gs generalizing s with
  | nil => rfl
  | cons g gs ih => simp [ih]
@[simp] theorem callAll_biasC (gs : List GenId) (op : GenOp) : (callAll gs op s).biasC = s.biasC := by
  induction gs generalizing s with
  | nil => rfl
  | cons g gs ih => simp [ih]
@[simp] theorem callAll_clock (gs : List GenId) (op : GenOp) : (callAll gs op s).clock = s.clock := by
  induction gs generalizing s with
  | nil => rfl
  | cons g gs ih => simp [ih]
@[simp] theorem callAll_resumePt (gs : List GenId) (op : GenOp) : (callAll gs op s).resumePt = s.resumePt := by
  induction gs generalizing s with
  | nil => rfl
  | cons g gs ih => simp [ih]
@[simp] theorem callAll_suspended (gs : List GenId) (op : GenOp) : (callAll gs op s).suspended = s.suspended := by
  induction gs generalizing s with
  | nil => rfl
  | cons g gs ih => simp [ih]
@[simp] theorem callAll_sync (gs : List GenId) (op : GenOp) : (callAll gs op s).sync = s.sync := by
  induction gs generalizing s with
  | nil => rfl
  | cons g gs ih => simp [ih]
@[simp] theorem callAll_mixed (gs : List GenId) (op : GenOp) : (callAll gs op s).mixed = s.mixed := by
  induction gs generalizing s with
  | nil => rfl
  | cons g gs ih => simp [ih]
@[simp] theorem callAll_filtered (gs : List GenId) (op : GenOp) : (callAll gs op s).filtered = s.filtered := by
  induction gs generalizing s with
  | nil => rfl
  | cons g gs ih => simp [ih]
@[simp] theorem callAll_samples (gs : List GenId) (op : GenOp) : (callAll gs op s).samples = s.samples := by
  induction gs generalizing s with
  | nil => rfl
  | cons g gs ih => simp [ih]
@[simp] theorem callAll_readLog (gs : List GenId) (op : GenOp) : (callAll gs op s).readLog = s.readLog := by
  induction gs generalizing s with
  | nil => rfl
  | cons g gs ih => simp [ih]
@[simp] theorem callAll_exits (gs : List GenId) (op : GenOp) : (callAll gs op s).exits = s.exits := by
  induction gs generalizing s with
  | nil => rfl
  | cons g gs ih => simp [ih]
@[simp] theorem callAll_hostFault (gs : List GenId) (op : GenOp) : (callAll gs op s).hostFault = s.hostFault := by
  induction gs generalizing s with
  | nil => rfl
  | cons g gs ih => simp [ih]
@[simp] theorem callAll_pending (gs : List GenId) (op : GenOp) : (callAll gs op s).pending = s.pending := by
  induction gs generalizing s with
  | nil => rfl
  | cons g gs ih => simp [ih]

@[simp] theorem callAll_trace (gs : List GenId) (op : GenOp) :
    (callAll gs op s).trace = s.trace ++ gs.map (fun g => ⟨g, op⟩) := by
  induction gs generalizing s with
  | nil => simp
  | cons g gs ih => simp [ih]

theorem getGen_callAll_absent (gs : List GenId) (op : GenOp) (h : GenId) (absent : h ∉ gs) :
    getGen h (callAll gs op s) = getGen h s := by
  induction gs generalizing s with
  | nil => rfl
  | cons g gs ih =>
    have ne : h ≠ g := fun e => absent (e ▸ List.mem_cons_self)
    rw [callAll_cons, ih _ (fun m => absent (List.mem_cons_of_mem _ m)), getGen_callGen_other _ _ _ _ ne]

/-- A call made on several generators reaches each of them once. -/
theorem getGen_callAll (gs : List GenId) (op : GenOp) (h : GenId) (distinct : gs.Nodup) (mem : h ∈ gs) :
    getGen h (callAll gs op s) = genApply s.par h op (getGen h s) := by
  induction gs generalizing s with
  | nil => cases mem
  | cons g gs ih =>
    obtain ⟨notMem, distinct'⟩ := List.nodup_cons.mp distinct
    rw [callAll_cons]
    by_cases e : h = g
    · subst e
      rw [getGen_callAll_absent _ _ _ _ notMem, getGen_callGen_same]
    · rw [ih _ distinct' ((List.mem_cons.mp mem).resolve_left e), getGen_callGen_other _ _ _ _ e, callGen_par]

/-- Two states with the same fields are the same. -/
theorem ext_gens (t : State) (h : ∀ g, getGen g s = getGen g t) :
    s.gen1 = t.gen1 ∧ s.gen2 = t.gen2 ∧ s.gen3 = t.gen3 ∧ s.gen4 = t.gen4 :=
  ⟨h .g1, h .g2, h .g3, h .g4⟩

/-- A gated write either happens or leaves no trace (R143). -/
theorem gated_cases (f : State → State) :
    (s.menable = true ∧ gated f s = f s) ∨ (s.menable = false ∧ gated f s = s) := by
  unfold gated
  cases s.menable <;> simp

end Sys2Proof.Machine
end

