-- ==== Sys2Proof/Laws/Cycle.lean ====
section
/-! SUPPORT. What each sub-operation of a cycle leaves unchanged and what it writes; the cycle as a whole. -/

namespace Sys2Proof.Machine

variable (s : State)

@[simp] theorem clkLen_par : (clkLen s).par = s.par := by simp [clkLen]
@[simp] theorem clkLen_stage : (clkLen s).stage = s.stage := by simp [clkLen]
@[simp] theorem clkLen_phase : (clkLen s).phase = s.phase := by simp [clkLen]
@[simp] theorem clkLen_menable : (clkLen s).menable = s.menable := by simp [clkLen]
@[simp] theorem clkLen_mvol : (clkLen s).mvol = s.mvol := by simp [clkLen]
@[simp] theorem clkLen_mroute : (clkLen s).mroute = s.mroute := by simp [clkLen]
@[simp] theorem clkLen_biasL : (clkLen s).biasL = s.biasL := by simp [clkLen]
@[simp] theorem clkLen_biasR : (clkLen s).biasR = s.biasR := by simp [clkLen]
@[simp] theorem clkLen_biasC : (clkLen s).biasC = s.biasC := by simp [clkLen]
@[simp] theorem clkLen_clock : (clkLen s).clock = s.clock := by simp [clkLen]
@[simp] theorem clkLen_resumePt : (clkLen s).resumePt = s.resumePt := by simp [clkLen]
@[simp] theorem clkLen_suspended : (clkLen s).suspended = s.suspended := by simp [clkLen]
@[simp] theorem clkLen_sync : (clkLen s).sync = s.sync := by simp [clkLen]
@[simp] theorem clkLen_mixed : (clkLen s).mixed = s.mixed := by simp [clkLen]
@[simp] theorem clkLen_filtered : (clkLen s).filtered = s.filtered := by simp [clkLen]
@[simp] theorem clkLen_samples : (clkLen s).samples = s.samples := by simp [clkLen]
@[simp] theorem clkLen_readLog : (clkLen s).readLog = s.readLog := by simp [clkLen]
@[simp] theorem clkLen_exits : (clkLen s).exits = s.exits := by simp [clkLen]
@[simp] theorem clkLen_hostFault : (clkLen s).hostFault = s.hostFault := by simp [clkLen]
@[simp] theorem clkLen_pending : (clkLen s).pending = s.pending := by simp [clkLen]

@[simp] theorem clkSwp_par : (clkSwp s).par = s.par := by simp [clkSwp]
@[simp] theorem clkSwp_stage : (clkSwp s).stage = s.stage := by simp [clkSwp]
@[simp] theorem clkSwp_phase : (clkSwp s).phase = s.phase := by simp [clkSwp]
@[simp] theorem clkSwp_menable : (clkSwp s).menable = s.menable := by simp [clkSwp]
@[simp] theorem clkSwp_mvol : (clkSwp s).mvol = s.mvol := by simp [clkSwp]
@[simp] theorem clkSwp_mroute : (clkSwp s).mroute = s.mroute := by simp [clkSwp]
@[simp] theorem clkSwp_biasL : (clkSwp s).biasL = s.biasL := by simp [clkSwp]
@[simp] theorem clkSwp_biasR : (clkSwp s).biasR = s.biasR := by simp [clkSwp]
@[simp] theorem clkSwp_biasC : (clkSwp s).biasC = s.biasC := by simp [clkSwp]
@[simp] theorem clkSwp_clock : (clkSwp s).clock = s.clock := by simp [clkSwp]
@[simp] theorem clkSwp_resumePt : (clkSwp s).resumePt = s.resumePt := by simp [clkSwp]
@[simp] theorem clkSwp_suspended : (clkSwp s).suspended = s.suspended := by simp [clkSwp]
@[simp] theorem clkSwp_sync : (clkSwp s).sync = s.sync := by simp [clkSwp]
@[simp] theorem clkSwp_mixed : (clkSwp s).mixed = s.mixed := by simp [clkSwp]
@[simp] theorem clkSwp_filtered : (clkSwp s).filtered = s.filtered := by simp [clkSwp]
@[simp] theorem clkSwp_samples : (clkSwp s).samples = s.samples := by simp [clkSwp]
@[simp] theorem clkSwp_readLog : (clkSwp s).readLog = s.readLog := by simp [clkSwp]
@[simp] theorem clkSwp_exits : (clkSwp s).exits = s.exits := by simp [clkSwp]
@[simp] theorem clkSwp_hostFault : (clkSwp s).hostFault = s.hostFault := by simp [clkSwp]
@[simp] theorem clkSwp_pending : (clkSwp s).pending = s.pending := by simp [clkSwp]

@[simp] theorem clkEnv_par : (clkEnv s).par = s.par := by simp [clkEnv]
@[simp] theorem clkEnv_stage : (clkEnv s).stage = s.stage := by simp [clkEnv]
@[simp] theorem clkEnv_phase : (clkEnv s).phase = s.phase := by simp [clkEnv]
@[simp] theorem clkEnv_menable : (clkEnv s).menable = s.menable := by simp [clkEnv]
@[simp] theorem clkEnv_mvol : (clkEnv s).mvol = s.mvol := by simp [clkEnv]
@[simp] theorem clkEnv_mroute : (clkEnv s).mroute = s.mroute := by simp [clkEnv]
@[simp] theorem clkEnv_biasL : (clkEnv s).biasL = s.biasL := by simp [clkEnv]
@[simp] theorem clkEnv_biasR : (clkEnv s).biasR = s.biasR := by simp [clkEnv]
@[simp] theorem clkEnv_biasC : (clkEnv s).biasC = s.biasC := by simp [clkEnv]
@[simp] theorem clkEnv_clock : (clkEnv s).clock = s.clock := by simp [clkEnv]
@[simp] theorem clkEnv_resumePt : (clkEnv s).resumePt = s.resumePt := by simp [clkEnv]
@[simp] theorem clkEnv_suspended : (clkEnv s).suspended = s.suspended := by simp [clkEnv]
@[simp] theorem clkEnv_sync : (clkEnv s).sync = s.sync := by simp [clkEnv]
@[simp] theorem clkEnv_mixed : (clkEnv s).mixed = s.mixed := by simp [clkEnv]
@[simp] theorem clkEnv_filtered : (clkEnv s).filtered = s.filtered := by simp [clkEnv]
@[simp] theorem clkEnv_samples : (clkEnv s).samples = s.samples := by simp [clkEnv]
@[simp] theorem clkEnv_readLog : (clkEnv s).readLog = s.readLog := by simp [clkEnv]
@[simp] theorem clkEnv_exits : (clkEnv s).exits = s.exits := by simp [clkEnv]
@[simp] theorem clkEnv_hostFault : (clkEnv s).hostFault = s.hostFault := by simp [clkEnv]
@[simp] theorem clkEnv_pending : (clkEnv s).pending = s.pending := by simp [clkEnv]

@[simp] theorem clkLen_trace :
    (clkLen s).trace = s.trace ++ [⟨.g1, .clockLength⟩, ⟨.g2, .clockLength⟩, ⟨.g3, .clockLength⟩, ⟨.g4, .clockLength⟩] := by
  simp [clkLen]
@[simp] theorem clkSwp_trace : (clkSwp s).trace = s.trace ++ [⟨.g1, .clockSweep⟩] := by simp [clkSwp]
@[simp] theorem clkEnv_trace :
    (clkEnv s).trace = s.trace ++ [⟨.g1, .clockEnvelope⟩, ⟨.g2, .clockEnvelope⟩, ⟨.g4, .clockEnvelope⟩] := by
  simp [clkEnv]

/-- Every generator takes one length clock (R93). -/
@[simp] theorem getGen_clkLen (g : GenId) : getGen g (clkLen s) = genApply s.par g .clockLength (getGen g s) :=
  getGen_callAll s _ _ _ (by decide) (by cases g <;> decide)

/-- Every generator but the third takes one envelope clock (R95). -/
theorem getGen_clkEnv (g : GenId) (ne : g ≠ .g3) :
    getGen g (clkEnv s) = genApply s.par g .clockEnvelope (getGen g s) :=
  getGen_callAll s _ _ _ (by decide) (by cases g <;> first | exact absurd rfl ne | decide)

/-- Generator 1 takes one sweep clock (R94). -/
@[simp] theorem gen1_clkSwp : (clkSwp s).gen1 = genApply s.par .g1 .clockSweep s.gen1 := rfl

/-- `DECODE_AND_DISPATCH` without the step of `phase`: lines 2 to 4 of R92. -/
def dispatchEvents (s : State) : State :=
  let p := s.phase
  let s := if firesLen p then clkLen s else s
  let s := if firesSwp p then clkSwp s else s
  if firesEnv p then clkEnv s else s

theorem decodeAndDispatch_eq : decodeAndDispatch s = { dispatchEvents s with phase := s.phase + 1 } := rfl

@[simp] theorem dispatchEvents_par : (dispatchEvents s).par = s.par := by simp only [dispatchEvents]; split <;> split <;> split <;> simp
@[simp] theorem dispatchEvents_stage : (dispatchEvents s).stage = s.stage := by simp only [dispatchEvents]; split <;> split <;> split <;> simp
@[simp] theorem dispatchEvents_phase : (dispatchEvents s).phase = s.phase := by simp only [dispatchEvents]; split <;> split <;> split <;> simp
@[simp] theorem dispatchEvents_menable : (dispatchEvents s).menable = s.menable := by simp only [dispatchEvents]; split <;> split <;> split <;> simp
@[simp] theorem dispatchEvents_mvol : (dispatchEvents s).mvol = s.mvol := by simp only [dispatchEvents]; split <;> split <;> split <;> simp
@[simp] theorem dispatchEvents_mroute : (dispatchEvents s).mroute = s.mroute := by simp only [dispatchEvents]; split <;> split <;> split <;> simp
@[simp] theorem dispatchEvents_biasL : (dispatchEvents s).biasL = s.biasL := by simp only [dispatchEvents]; split <;> split <;> split <;> simp
@[simp] theorem dispatchEvents_biasR : (dispatchEvents s).biasR = s.biasR := by simp only [dispatchEvents]; split <;> split <;> split <;> simp
@[simp] theorem dispatchEvents_biasC : (dispatchEvents s).biasC = s.biasC := by simp only [dispatchEvents]; split <;> split <;> split <;> simp
@[simp] theorem dispatchEvents_clock : (dispatchEvents s).clock = s.clock := by simp only [dispatchEvents]; split <;> split <;> split <;> simp
@[simp] theorem dispatchEvents_resumePt : (dispatchEvents s).resumePt = s.resumePt := by simp only [dispatchEvents]; split <;> split <;> split <;> simp
@[simp] theorem dispatchEvents_suspended : (dispatchEvents s).suspended = s.suspended := by simp only [dispatchEvents]; split <;> split <;> split <;> simp
@[simp] theorem dispatchEvents_sync : (dispatchEvents s).sync = s.sync := by simp only [dispatchEvents]; split <;> split <;> split <;> simp
@[simp] theorem dispatchEvents_mixed : (dispatchEvents s).mixed = s.mixed := by simp only [dispatchEvents]; split <;> split <;> split <;> simp
@[simp] theorem dispatchEvents_filtered : (dispatchEvents s).filtered = s.filtered := by simp only [dispatchEvents]; split <;> split <;> split <;> simp
@[simp] theorem dispatchEvents_samples : (dispatchEvents s).samples = s.samples := by simp only [dispatchEvents]; split <;> split <;> split <;> simp
@[simp] theorem dispatchEvents_readLog : (dispatchEvents s).readLog = s.readLog := by simp only [dispatchEvents]; split <;> split <;> split <;> simp
@[simp] theorem dispatchEvents_exits : (dispatchEvents s).exits = s.exits := by simp only [dispatchEvents]; split <;> split <;> split <;> simp
@[simp] theorem dispatchEvents_hostFault : (dispatchEvents s).hostFault = s.hostFault := by simp only [dispatchEvents]; split <;> split <;> split <;> simp
@[simp] theorem dispatchEvents_pending : (dispatchEvents s).pending = s.pending := by simp only [dispatchEvents]; split <;> split <;> split <;> simp

@[simp] theorem decodeAndDispatch_par : (decodeAndDispatch s).par = s.par := by simp [decodeAndDispatch_eq]
@[simp] theorem decodeAndDispatch_stage : (decodeAndDispatch s).stage = s.stage := by simp [decodeAndDispatch_eq]
@[simp] theorem decodeAndDispatch_menable : (decodeAndDispatch s).menable = s.menable := by simp [decodeAndDispatch_eq]
@[simp] theorem decodeAndDispatch_mvol : (decodeAndDispatch s).mvol = s.mvol := by simp [decodeAndDispatch_eq]
@[simp] theorem decodeAndDispatch_mroute : (decodeAndDispatch s).mroute = s.mroute := by simp [decodeAndDispatch_eq]
@[simp] theorem decodeAndDispatch_biasL : (decodeAndDispatch s).biasL = s.biasL := by simp [decodeAndDispatch_eq]
@[simp] theorem decodeAndDispatch_biasR : (decodeAndDispatch s).biasR = s.biasR := by simp [decodeAndDispatch_eq]
@[simp] theorem decodeAndDispatch_biasC : (decodeAndDispatch s).biasC = s.biasC := by simp [decodeAndDispatch_eq]
@[simp] theorem decodeAndDispatch_clock : (decodeAndDispatch s).clock = s.clock := by simp [decodeAndDispatch_eq]
@[simp] theorem decodeAndDispatch_resumePt : (decodeAndDispatch s).resumePt = s.resumePt := by simp [decodeAndDispatch_eq]
@[simp] theorem decodeAndDispatch_suspended : (decodeAndDispatch s).suspended = s.suspended := by simp [decodeAndDispatch_eq]
@[simp] theorem decodeAndDispatch_sync : (decodeAndDispatch s).sync = s.sync := by simp [decodeAndDispatch_eq]
@[simp] theorem decodeAndDispatch_mixed : (decodeAndDispatch s).mixed = s.mixed := by simp [decodeAndDispatch_eq]
@[simp] theorem decodeAndDispatch_filtered : (decodeAndDispatch s).filtered = s.filtered := by simp [decodeAndDispatch_eq]
@[simp] theorem decodeAndDispatch_samples : (decodeAndDispatch s).samples = s.samples := by simp [decodeAndDispatch_eq]
@[simp] theorem decodeAndDispatch_readLog : (decodeAndDispatch s).readLog = s.readLog := by simp [decodeAndDispatch_eq]
@[simp] theorem decodeAndDispatch_exits : (decodeAndDispatch s).exits = s.exits := by simp [decodeAndDispatch_eq]
@[simp] theorem decodeAndDispatch_hostFault : (decodeAndDispatch s).hostFault = s.hostFault := by simp [decodeAndDispatch_eq]
@[simp] theorem decodeAndDispatch_pending : (decodeAndDispatch s).pending = s.pending := by simp [decodeAndDispatch_eq]

@[simp] theorem decodeAndDispatch_phase : (decodeAndDispatch s).phase = s.phase + 1 := rfl

@[simp] theorem seqStep_par : (seqStep s).par = s.par := by unfold seqStep; dsimp only; split <;> simp
@[simp] theorem seqStep_menable : (seqStep s).menable = s.menable := by unfold seqStep; dsimp only; split <;> simp
@[simp] theorem seqStep_mvol : (seqStep s).mvol = s.mvol := by unfold seqStep; dsimp only; split <;> simp
@[simp] theorem seqStep_mroute : (seqStep s).mroute = s.mroute := by unfold seqStep; dsimp only; split <;> simp
@[simp] theorem seqStep_biasL : (seqStep s).biasL = s.biasL := by unfold seqStep; dsimp only; split <;> simp
@[simp] theorem seqStep_biasR : (seqStep s).biasR = s.biasR := by unfold seqStep; dsimp only; split <;> simp
@[simp] theorem seqStep_biasC : (seqStep s).biasC = s.biasC := by unfold seqStep; dsimp only; split <;> simp
@[simp] theorem seqStep_clock : (seqStep s).clock = s.clock := by unfold seqStep; dsimp only; split <;> simp
@[simp] theorem seqStep_resumePt : (seqStep s).resumePt = s.resumePt := by unfold seqStep; dsimp only; split <;> simp
@[simp] theorem seqStep_suspended : (seqStep s).suspended = s.suspended := by unfold seqStep; dsimp only; split <;> simp
@[simp] theorem seqStep_sync : (seqStep s).sync = s.sync := by unfold seqStep; dsimp only; split <;> simp
@[simp] theorem seqStep_mixed : (seqStep s).mixed = s.mixed := by unfold seqStep; dsimp only; split <;> simp
@[simp] theorem seqStep_filtered : (seqStep s).filtered = s.filtered := by unfold seqStep; dsimp only; split <;> simp
@[simp] theorem seqStep_samples : (seqStep s).samples = s.samples := by unfold seqStep; dsimp only; split <;> simp
@[simp] theorem seqStep_readLog : (seqStep s).readLog = s.readLog := by unfold seqStep; dsimp only; split <;> simp
@[simp] theorem seqStep_exits : (seqStep s).exits = s.exits := by unfold seqStep; dsimp only; split <;> simp
@[simp] theorem seqStep_hostFault : (seqStep s).hostFault = s.hostFault := by unfold seqStep; dsimp only; split <;> simp
@[simp] theorem seqStep_pending : (seqStep s).pending = s.pending := by unfold seqStep; dsimp only; split <;> simp

@[simp] theorem seqStep_stage : (seqStep s).stage = (s.stage + 1) % s.par.seqDiv := by
  unfold seqStep; dsimp only; split <;> simp

@[simp] theorem seqStep_phase : (seqStep s).phase = if s.stage = 0 then s.phase + 1 else s.phase := by
  unfold seqStep; dsimp only; split <;> simp

@[simp] theorem runStep_par : (runStep s).par = s.par := by simp [runStep]
@[simp] theorem runStep_stage : (runStep s).stage = s.stage := by simp [runStep]
@[simp] theorem runStep_phase : (runStep s).phase = s.phase := by simp [runStep]
@[simp] theorem runStep_menable : (runStep s).menable = s.menable := by simp [runStep]
@[simp] theorem runStep_mvol : (runStep s).mvol = s.mvol := by simp [runStep]
@[simp] theorem runStep_mroute : (runStep s).mroute = s.mroute := by simp [runStep]
@[simp] theorem runStep_biasL : (runStep s).biasL = s.biasL := by simp [runStep]
@[simp] theorem runStep_biasR : (runStep s).biasR = s.biasR := by simp [runStep]
@[simp] theorem runStep_biasC : (runStep s).biasC = s.biasC := by simp [runStep]
@[simp] theorem runStep_clock : (runStep s).clock = s.clock := by simp [runStep]
@[simp] theorem runStep_resumePt : (runStep s).resumePt = s.resumePt := by simp [runStep]
@[simp] theorem runStep_suspended : (runStep s).suspended = s.suspended := by simp [runStep]
@[simp] theorem runStep_sync : (runStep s).sync = s.sync := by simp [runStep]
@[simp] theorem runStep_mixed : (runStep s).mixed = s.mixed := by simp [runStep]
@[simp] theorem runStep_filtered : (runStep s).filtered = s.filtered := by simp [runStep]
@[simp] theorem runStep_samples : (runStep s).samples = s.samples := by simp [runStep]
@[simp] theorem runStep_readLog : (runStep s).readLog = s.readLog := by simp [runStep]
@[simp] theorem runStep_exits : (runStep s).exits = s.exits := by simp [runStep]
@[simp] theorem runStep_hostFault : (runStep s).hostFault = s.hostFault := by simp [runStep]
@[simp] theorem runStep_pending : (runStep s).pending = s.pending := by simp [runStep]

@[simp] theorem runStep_trace :
    (runStep s).trace = s.trace ++ [⟨.g1, .run⟩, ⟨.g2, .run⟩, ⟨.g3, .run⟩, ⟨.g4, .run⟩] := by simp [runStep]

@[simp] theorem getGen_runStep (g : GenId) : getGen g (runStep s) = genApply s.par g .run (getGen g s) :=
  getGen_callAll s _ _ _ (by decide) (by cases g <;> decide)

@[simp] theorem logSamples_par : (logSamples s).par = s.par := by simp [logSamples]
@[simp] theorem logSamples_stage : (logSamples s).stage = s.stage := by simp [logSamples]
@[simp] theorem logSamples_phase : (logSamples s).phase = s.phase := by simp [logSamples]
@[simp] theorem logSamples_menable : (logSamples s).menable = s.menable := by simp [logSamples]
@[simp] theorem logSamples_mvol : (logSamples s).mvol = s.mvol := by simp [logSamples]
@[simp] theorem logSamples_mroute : (logSamples s).mroute = s.mroute := by simp [logSamples]
@[simp] theorem logSamples_biasL : (logSamples s).biasL = s.biasL := by simp [logSamples]
@[simp] theorem logSamples_biasR : (logSamples s).biasR = s.biasR := by simp [logSamples]
@[simp] theorem logSamples_biasC : (logSamples s).biasC = s.biasC := by simp [logSamples]
@[simp] theorem logSamples_gen1 : (logSamples s).gen1 = s.gen1 := by simp [logSamples]
@[simp] theorem logSamples_gen2 : (logSamples s).gen2 = s.gen2 := by simp [logSamples]
@[simp] theorem logSamples_gen3 : (logSamples s).gen3 = s.gen3 := by simp [logSamples]
@[simp] theorem logSamples_gen4 : (logSamples s).gen4 = s.gen4 := by simp [logSamples]
@[simp] theorem logSamples_clock : (logSamples s).clock = s.clock := by simp [logSamples]
@[simp] theorem logSamples_resumePt : (logSamples s).resumePt = s.resumePt := by simp [logSamples]
@[simp] theorem logSamples_suspended : (logSamples s).suspended = s.suspended := by simp [logSamples]
@[simp] theorem logSamples_sync : (logSamples s).sync = s.sync := by simp [logSamples]
@[simp] theorem logSamples_mixed : (logSamples s).mixed = s.mixed := by simp [logSamples]
@[simp] theorem logSamples_filtered : (logSamples s).filtered = s.filtered := by simp [logSamples]
@[simp] theorem logSamples_samples : (logSamples s).samples = s.samples := by simp [logSamples]
@[simp] theorem logSamples_readLog : (logSamples s).readLog = s.readLog := by simp [logSamples]
@[simp] theorem logSamples_exits : (logSamples s).exits = s.exits := by simp [logSamples]
@[simp] theorem logSamples_hostFault : (logSamples s).hostFault = s.hostFault := by simp [logSamples]
@[simp] theorem logSamples_pending : (logSamples s).pending = s.pending := by simp [logSamples]

@[simp] theorem logSamples_trace :
    (logSamples s).trace = s.trace ++ [⟨.g1, .sample⟩, ⟨.g2, .sample⟩, ⟨.g3, .sample⟩, ⟨.g4, .sample⟩] := by
  simp [logSamples]
@[simp] theorem getGen_logSamples (g : GenId) : getGen g (logSamples s) = getGen g s := by
  cases g <;> simp [getGen]

@[simp] theorem mixStep_par : (mixStep s).par = s.par := by simp [mixStep]
@[simp] theorem mixStep_stage : (mixStep s).stage = s.stage := by simp [mixStep]
@[simp] theorem mixStep_phase : (mixStep s).phase = s.phase := by simp [mixStep]
@[simp] theorem mixStep_menable : (mixStep s).menable = s.menable := by simp [mixStep]
@[simp] theorem mixStep_mvol : (mixStep s).mvol = s.mvol := by simp [mixStep]
@[simp] theorem mixStep_mroute : (mixStep s).mroute = s.mroute := by simp [mixStep]
@[simp] theorem mixStep_biasL : (mixStep s).biasL = s.biasL := by simp [mixStep]
@[simp] theorem mixStep_biasR : (mixStep s).biasR = s.biasR := by simp [mixStep]
@[simp] theorem mixStep_biasC : (mixStep s).biasC = s.biasC := by simp [mixStep]
@[simp] theorem mixStep_gen1 : (mixStep s).gen1 = s.gen1 := by simp [mixStep]
@[simp] theorem mixStep_gen2 : (mixStep s).gen2 = s.gen2 := by simp [mixStep]
@[simp] theorem mixStep_gen3 : (mixStep s).gen3 = s.gen3 := by simp [mixStep]
@[simp] theorem mixStep_gen4 : (mixStep s).gen4 = s.gen4 := by simp [mixStep]
@[simp] theorem mixStep_clock : (mixStep s).clock = s.clock := by simp [mixStep]
@[simp] theorem mixStep_resumePt : (mixStep s).resumePt = s.resumePt := by simp [mixStep]
@[simp] theorem mixStep_suspended : (mixStep s).suspended = s.suspended := by simp [mixStep]
@[simp] theorem mixStep_sync : (mixStep s).sync = s.sync := by simp [mixStep]
@[simp] theorem mixStep_filtered : (mixStep s).filtered = s.filtered := by simp [mixStep]
@[simp] theorem mixStep_samples : (mixStep s).samples = s.samples := by simp [mixStep]
@[simp] theorem mixStep_readLog : (mixStep s).readLog = s.readLog := by simp [mixStep]
@[simp] theorem mixStep_exits : (mixStep s).exits = s.exits := by simp [mixStep]
@[simp] theorem mixStep_hostFault : (mixStep s).hostFault = s.hostFault := by simp [mixStep]
@[simp] theorem mixStep_pending : (mixStep s).pending = s.pending := by simp [mixStep]

@[simp] theorem mixStep_trace :
    (mixStep s).trace = s.trace ++ [⟨.g1, .sample⟩, ⟨.g2, .sample⟩, ⟨.g3, .sample⟩, ⟨.g4, .sample⟩] := by
  simp [mixStep]
@[simp] theorem mixStep_mixed : (mixStep s).mixed = mixOf s.par s.mroute s.mvol (smp s) := by simp [mixStep]
@[simp] theorem getGen_mixStep (g : GenId) : getGen g (mixStep s) = getGen g s := by cases g <;> simp [getGen]

@[simp] theorem hpfStep_par : (hpfStep s).par = s.par := by simp [hpfStep]
@[simp] theorem hpfStep_stage : (hpfStep s).stage = s.stage := by simp [hpfStep]
@[simp] theorem hpfStep_phase : (hpfStep s).phase = s.phase := by simp [hpfStep]
@[simp] theorem hpfStep_menable : (hpfStep s).menable = s.menable := by simp [hpfStep]
@[simp] theorem hpfStep_mvol : (hpfStep s).mvol = s.mvol := by simp [hpfStep]
@[simp] theorem hpfStep_mroute : (hpfStep s).mroute = s.mroute := by simp [hpfStep]
@[simp] theorem hpfStep_gen1 : (hpfStep s).gen1 = s.gen1 := by simp [hpfStep]
@[simp] theorem hpfStep_gen2 : (hpfStep s).gen2 = s.gen2 := by simp [hpfStep]
@[simp] theorem hpfStep_gen3 : (hpfStep s).gen3 = s.gen3 := by simp [hpfStep]
@[simp] theorem hpfStep_gen4 : (hpfStep s).gen4 = s.gen4 := by simp [hpfStep]
@[simp] theorem hpfStep_clock : (hpfStep s).clock = s.clock := by simp [hpfStep]
@[simp] theorem hpfStep_resumePt : (hpfStep s).resumePt = s.resumePt := by simp [hpfStep]
@[simp] theorem hpfStep_suspended : (hpfStep s).suspended = s.suspended := by simp [hpfStep]
@[simp] theorem hpfStep_sync : (hpfStep s).sync = s.sync := by simp [hpfStep]
@[simp] theorem hpfStep_samples : (hpfStep s).samples = s.samples := by simp [hpfStep]
@[simp] theorem hpfStep_readLog : (hpfStep s).readLog = s.readLog := by simp [hpfStep]
@[simp] theorem hpfStep_trace : (hpfStep s).trace = s.trace := by simp [hpfStep]
@[simp] theorem hpfStep_exits : (hpfStep s).exits = s.exits := by simp [hpfStep]
@[simp] theorem hpfStep_hostFault : (hpfStep s).hostFault = s.hostFault := by simp [hpfStep]
@[simp] theorem hpfStep_pending : (hpfStep s).pending = s.pending := by simp [hpfStep]

@[simp] theorem emitStep_par : (emitStep s).par = s.par := by simp [emitStep]
@[simp] theorem emitStep_stage : (emitStep s).stage = s.stage := by simp [emitStep]
@[simp] theorem emitStep_phase : (emitStep s).phase = s.phase := by simp [emitStep]
@[simp] theorem emitStep_menable : (emitStep s).menable = s.menable := by simp [emitStep]
@[simp] theorem emitStep_mvol : (emitStep s).mvol = s.mvol := by simp [emitStep]
@[simp] theorem emitStep_mroute : (emitStep s).mroute = s.mroute := by simp [emitStep]
@[simp] theorem emitStep_biasL : (emitStep s).biasL = s.biasL := by simp [emitStep]
@[simp] theorem emitStep_biasR : (emitStep s).biasR = s.biasR := by simp [emitStep]
@[simp] theorem emitStep_biasC : (emitStep s).biasC = s.biasC := by simp [emitStep]
@[simp] theorem emitStep_gen1 : (emitStep s).gen1 = s.gen1 := by simp [emitStep]
@[simp] theorem emitStep_gen2 : (emitStep s).gen2 = s.gen2 := by simp [emitStep]
@[simp] theorem emitStep_gen3 : (emitStep s).gen3 = s.gen3 := by simp [emitStep]
@[simp] theorem emitStep_gen4 : (emitStep s).gen4 = s.gen4 := by simp [emitStep]
@[simp] theorem emitStep_clock : (emitStep s).clock = s.clock := by simp [emitStep]
@[simp] theorem emitStep_resumePt : (emitStep s).resumePt = s.resumePt := by simp [emitStep]
@[simp] theorem emitStep_suspended : (emitStep s).suspended = s.suspended := by simp [emitStep]
@[simp] theorem emitStep_sync : (emitStep s).sync = s.sync := by simp [emitStep]
@[simp] theorem emitStep_mixed : (emitStep s).mixed = s.mixed := by simp [emitStep]
@[simp] theorem emitStep_readLog : (emitStep s).readLog = s.readLog := by simp [emitStep]
@[simp] theorem emitStep_trace : (emitStep s).trace = s.trace := by simp [emitStep]
@[simp] theorem emitStep_exits : (emitStep s).exits = s.exits := by simp [emitStep]
@[simp] theorem emitStep_hostFault : (emitStep s).hostFault = s.hostFault := by simp [emitStep]
@[simp] theorem emitStep_pending : (emitStep s).pending = s.pending := by simp [emitStep]

@[simp] theorem cycleStep_par : (cycleStep s).par = s.par := by simp [cycleStep]
@[simp] theorem cycleStep_menable : (cycleStep s).menable = s.menable := by simp [cycleStep]
@[simp] theorem cycleStep_mvol : (cycleStep s).mvol = s.mvol := by simp [cycleStep]
@[simp] theorem cycleStep_mroute : (cycleStep s).mroute = s.mroute := by simp [cycleStep]
@[simp] theorem cycleStep_clock : (cycleStep s).clock = s.clock := by simp [cycleStep]
@[simp] theorem cycleStep_resumePt : (cycleStep s).resumePt = s.resumePt := by simp [cycleStep]
@[simp] theorem cycleStep_suspended : (cycleStep s).suspended = s.suspended := by simp [cycleStep]
@[simp] theorem cycleStep_sync : (cycleStep s).sync = s.sync := by simp [cycleStep]
@[simp] theorem cycleStep_readLog : (cycleStep s).readLog = s.readLog := by simp [cycleStep]
@[simp] theorem cycleStep_exits : (cycleStep s).exits = s.exits := by simp [cycleStep]
@[simp] theorem cycleStep_hostFault : (cycleStep s).hostFault = s.hostFault := by simp [cycleStep]
@[simp] theorem cycleStep_pending : (cycleStep s).pending = s.pending := by simp [cycleStep]

@[simp] theorem cycleStep_stage : (cycleStep s).stage = (s.stage + 1) % s.par.seqDiv := by simp [cycleStep]
@[simp] theorem cycleStep_phase : (cycleStep s).phase = if s.stage = 0 then s.phase + 1 else s.phase := by simp [cycleStep]
@[simp] theorem cycleStep_mixed : (cycleStep s).mixed = ⟨0, 0, 0⟩ := by
  simp [cycleStep, emitStep, hpfStep]
@[simp] theorem cycleStep_filtered : (cycleStep s).filtered = ⟨0, 0, 0⟩ := by
  simp [cycleStep, emitStep]

/-- The mix of a cycle: of the samples that the `run` of the same cycle left (R211, R111). -/
def cycleMix (s : State) : Triple := mixOf s.par s.mroute s.mvol (smp (runStep (seqStep s)))

@[simp] theorem cycleStep_biasL : (cycleStep s).biasL = hpfBias s.par s.biasL (cycleMix s).l := by
  simp [cycleStep, emitStep, hpfStep, cycleMix]
@[simp] theorem cycleStep_biasR : (cycleStep s).biasR = hpfBias s.par s.biasR (cycleMix s).r := by
  simp [cycleStep, emitStep, hpfStep, cycleMix]
@[simp] theorem cycleStep_biasC :
    (cycleStep s).biasC = if s.par.hasCenter then hpfBias s.par s.biasC (cycleMix s).c else s.biasC := by
  simp [cycleStep, emitStep, hpfStep, cycleMix]

/-- The one pair of a cycle (R213). -/
theorem cycleStep_samples :
    (cycleStep s).samples = s.samples ++ [⟨hpfOut s.par s.biasL (cycleMix s).l, hpfOut s.par s.biasR (cycleMix s).r,
      if s.par.hasCenter then some (hpfOut s.par s.biasC (cycleMix s).c) else none⟩] := by
  cases h : s.par.hasCenter <;> simp [cycleStep, emitStep, hpfStep, cycleMix, h]

@[simp] theorem getGen_cycleStep (g : GenId) :
    getGen g (cycleStep s) = genApply s.par g .run (getGen g (seqStep s)) := by
  have h : getGen g (cycleStep s) = getGen g (runStep (seqStep s)) := by
    cases g <;> simp [cycleStep, emitStep, hpfStep, getGen]
  simp [h]

/-- The calls that the events of one cycle make (R215). -/
def eventCalls (stage : Nat) (p : BitVec 3) : List GenCall :=
  if stage = 0 then
    (if firesLen p then [⟨.g1, .clockLength⟩, ⟨.g2, .clockLength⟩, ⟨.g3, .clockLength⟩, ⟨.g4, .clockLength⟩] else [])
      ++ (if firesSwp p then [⟨.g1, .clockSweep⟩] else [])
      ++ (if firesEnv p then [⟨.g1, .clockEnvelope⟩, ⟨.g2, .clockEnvelope⟩, ⟨.g4, .clockEnvelope⟩] else [])
  else []

@[simp] theorem seqStep_trace : (seqStep s).trace = s.trace ++ eventCalls s.stage s.phase := by
  unfold seqStep eventCalls
  dsimp only
  split
  · simp only [decodeAndDispatch_eq, dispatchEvents]
    split <;> split <;> split <;> simp_all
  · simp_all

@[simp] theorem cycleStep_trace :
    (cycleStep s).trace = s.trace ++ eventCalls s.stage s.phase ++ [⟨.g1, .run⟩, ⟨.g2, .run⟩, ⟨.g3, .run⟩, ⟨.g4, .run⟩]
      ++ [⟨.g1, .sample⟩, ⟨.g2, .sample⟩, ⟨.g3, .sample⟩, ⟨.g4, .sample⟩] := by
  simp [cycleStep]

end Sys2Proof.Machine
end

