-- ==== Sys2Proof/Laws/Adapter.lean ====
section
/-! SUPPORT. The adapter's loop, one iteration at a time (spec/46_scheduler_adapter.md R221). -/

namespace Sys2Proof.Machine

variable (s : State)

/-- Line 3 and 4: at the top under forced sync the loop suspends before any cycle. -/
theorem adapterIteration_forced (top : s.resumePt = .atTop) (all : s.sync = .all) :
    adapterIteration s = { s with
      resumePt := .afterSyncCheck, suspended := true, exits := s.exits ++ [.syncEvent] } := by
  unfold adapterIteration
  rw [if_pos ⟨top, all⟩]
  rfl

/-- Lines 6 to 9: otherwise one cycle is performed, and the loop yields to the CPU if it has caught up. -/
theorem adapterIteration_cycle (h : ¬(s.resumePt = .atTop ∧ s.sync = .all)) :
    adapterIteration s =
      (let t := cycleStep { s with resumePt := .atTop }
       if 0 ≤ s.clock + (s.par.clkStep : Int) ∧ s.sync ≠ .all then
         { t with clock := s.clock + (s.par.clkStep : Int), suspended := true, exits := s.exits ++ [.toCPU] }
       else { t with clock := s.clock + (s.par.clkStep : Int) }) := by
  unfold adapterIteration
  rw [if_neg h]
  simp [suspendWith]

theorem adapterLoop_zero : adapterLoop 0 s = s := rfl

theorem adapterLoop_succ (n : Nat) :
    adapterLoop (n + 1) s
      = if (adapterIteration s).suspended then adapterIteration s else adapterLoop n (adapterIteration s) := rfl

@[simp] theorem adapterIteration_par : (adapterIteration s).par = s.par := by
  by_cases h : s.resumePt = .atTop ∧ s.sync = .all
  · rw [adapterIteration_forced s h.1 h.2]
  · rw [adapterIteration_cycle s h]
    dsimp only
    split <;> simp

@[simp] theorem adapterIteration_sync : (adapterIteration s).sync = s.sync := by
  by_cases h : s.resumePt = .atTop ∧ s.sync = .all
  · rw [adapterIteration_forced s h.1 h.2]
  · rw [adapterIteration_cycle s h]
    dsimp only
    split <;> simp

@[simp] theorem adapterIteration_pending : (adapterIteration s).pending = s.pending := by
  by_cases h : s.resumePt = .atTop ∧ s.sync = .all
  · rw [adapterIteration_forced s h.1 h.2]
  · rw [adapterIteration_cycle s h]
    dsimp only
    split <;> simp

@[simp] theorem adapterIteration_hostFault : (adapterIteration s).hostFault = s.hostFault := by
  by_cases h : s.resumePt = .atTop ∧ s.sync = .all
  · rw [adapterIteration_forced s h.1 h.2]
  · rw [adapterIteration_cycle s h]
    dsimp only
    split <;> simp

@[simp] theorem adapterLoop_par (n : Nat) : (adapterLoop n s).par = s.par := by
  induction n generalizing s with
  | zero => rfl
  | succ n ih =>
    rw [adapterLoop_succ]
    split <;> simp [ih]

@[simp] theorem adapterLoop_pending (n : Nat) : (adapterLoop n s).pending = s.pending := by
  induction n generalizing s with
  | zero => rfl
  | succ n ih =>
    rw [adapterLoop_succ]
    split <;> simp [ih]

@[simp] theorem adapterLoop_hostFault (n : Nat) : (adapterLoop n s).hostFault = s.hostFault := by
  induction n generalizing s with
  | zero => rfl
  | succ n ih =>
    rw [adapterLoop_succ]
    split <;> simp [ih]

end Sys2Proof.Machine
end

