-- ==== Sys2Proof/Laws/Params.lean ====
section
/-! SUPPORT. What a well-formed parameter set gives, in terms that omega can use. -/

namespace Sys2Proof

open Machine

variable {p : Params}

@[simp] theorem inRange_iff (r : Range) (a : Nat) : inRange r a = true ↔ r.lo ≤ a ∧ a ≤ r.hi := by simp [inRange]

theorem disjoint_iff (r s : Range) : r.disjoint s = true ↔ r.hi < s.lo ∨ s.hi < r.lo := by simp [Range.disjoint]

@[simp] theorem isInt16_iff (x : Int) : isInt16 x = true ↔ InInt16 x := by simp [isInt16]

/-- The constraints of R7's table, without the map and the scales. -/
theorem Params.wf_scalars (h : p.wf = true) :
    1 ≤ p.seqDiv ∧ 0 < p.k ∧ p.k ≤ 2 ^ (2 * p.shiftA) ∧ 1 ≤ p.addrBits ∧ 1 ≤ p.clkStep
      ∧ p.waveInit.length = rangeSize p.rngW := by
  simp only [Params.wf, Bool.and_eq_true, decide_eq_true_eq, beq_iff_eq] at h
  obtain ⟨h1, h2, h3, h4, h5, _, _, h8, _⟩ := h
  exact ⟨h1, h2, h3, h4, h5, h8⟩

theorem Params.wf_map (h : p.wf = true) : p.mapWf = true := by
  simp only [Params.wf, Bool.and_eq_true] at h
  exact h.2.2.2.2.2.1

theorem Params.wf_volScale (h : p.wf = true) : p.volScaleWf = true := by
  simp only [Params.wf, Bool.and_eq_true] at h
  exact h.2.2.2.2.2.2.2.2.1

theorem Params.wf_centerScale (h : p.wf = true) : p.centerScaleWf = true := by
  simp only [Params.wf, Bool.and_eq_true] at h
  exact h.2.2.2.2.2.2.2.2.2

/-- `RNG_M` has exactly three addresses (R7). -/
theorem Params.wf_master (h : p.wf = true) : p.rngM.hi = p.rngM.lo + 2 := by
  simp only [Params.wf, Bool.and_eq_true, beq_iff_eq, rangeSize] at h
  have := h.2.2.2.2.2.2.1
  omega

theorem Params.wf_window (h : p.wf = true) : p.win.lo ≤ p.win.hi ∧ p.win.hi < 2 ^ p.addrBits := by
  have := Params.wf_map h
  simp only [Params.mapWf, Bool.and_eq_true, decide_eq_true_eq] at this
  exact ⟨this.1, this.2.1⟩

/-- Every sub-range lies inside the window (R8). -/
theorem Params.wf_inside (h : p.wf = true) (r : Range) (m : r ∈ p.ranges) :
    r.lo ≤ r.hi ∧ p.win.lo ≤ r.lo ∧ r.hi ≤ p.win.hi := by
  have := Params.wf_map h
  simp only [Params.mapWf, Bool.and_eq_true, List.all_eq_true, decide_eq_true_eq] at this
  exact this.2.2.1 r m

/-- The sub-ranges are pairwise disjoint (R8). -/
theorem Params.wf_disjoint (h : p.wf = true) : p.ranges.Pairwise (fun r s => r.hi < s.lo ∨ s.hi < r.lo) := by
  have := Params.wf_map h
  simp only [Params.mapWf, Bool.and_eq_true, decide_eq_true_eq, disjoint_iff] at this
  exact this.2.2.2

/-- An address of one of two disjoint ranges is not in the other. -/
theorem not_inRange_of_disjoint {r s : Range} {a : Nat} (d : r.hi < s.lo ∨ s.hi < r.lo) (h : inRange s a = true) :
    inRange r a = false := by
  rw [Bool.eq_false_iff, ne_eq, inRange_iff]
  rw [inRange_iff] at h
  omega

/-- The disjointness of rule R8, in the form in which `route` tests it. -/
structure Params.Apart (p : Params) : Prop where
  win : ∀ r ∈ p.ranges, ∀ a, inRange r a = true → ¬ (a < p.win.lo ∨ p.win.hi < a)
  d12 : ∀ a, inRange p.rngG2 a = true → inRange p.rngG1 a = false
  d13 : ∀ a, inRange p.rngG3 a = true → inRange p.rngG1 a = false
  d14 : ∀ a, inRange p.rngG4 a = true → inRange p.rngG1 a = false
  d1m : ∀ a, inRange p.rngM a = true → inRange p.rngG1 a = false
  d1w : ∀ a, inRange p.rngW a = true → inRange p.rngG1 a = false
  d23 : ∀ a, inRange p.rngG3 a = true → inRange p.rngG2 a = false
  d24 : ∀ a, inRange p.rngG4 a = true → inRange p.rngG2 a = false
  d2m : ∀ a, inRange p.rngM a = true → inRange p.rngG2 a = false
  d2w : ∀ a, inRange p.rngW a = true → inRange p.rngG2 a = false
  d34 : ∀ a, inRange p.rngG4 a = true → inRange p.rngG3 a = false
  d3m : ∀ a, inRange p.rngM a = true → inRange p.rngG3 a = false
  d3w : ∀ a, inRange p.rngW a = true → inRange p.rngG3 a = false
  d4m : ∀ a, inRange p.rngM a = true → inRange p.rngG4 a = false
  d4w : ∀ a, inRange p.rngW a = true → inRange p.rngG4 a = false
  dmw : ∀ a, inRange p.rngW a = true → inRange p.rngM a = false

theorem Params.wf_apart (wf : p.wf = true) : p.Apart := by
  have D := Params.wf_disjoint wf
  simp only [Params.ranges, List.forall_mem_cons, List.pairwise_cons, List.not_mem_nil, IsEmpty.forall_iff, implies_true,
    and_true, List.Pairwise.nil] at D
  obtain ⟨⟨a1, a2, a3, a4, a5⟩, ⟨b1, b2, b3, b4⟩, ⟨c1, c2, c3⟩, ⟨d1, d2⟩, e1⟩ := D
  constructor
  · intro r m a h
    have := Params.wf_inside wf r m
    rw [inRange_iff] at h
    omega
  all_goals intro a h; apply not_inRange_of_disjoint _ h; assumption

theorem genRange_mem (g : GenId) : genRange p g ∈ p.ranges := by cases g <;> simp [genRange, Params.ranges]

@[simp] theorem hasOffset_iff (g : GenId) (off : Nat) : hasOffset p g off = true ↔ off < rangeSize (genRange p g) := by
  simp [hasOffset]

/-- A register of a generator's block lies in the window. -/
theorem genAddr_inWindow (h : p.wf = true) (g : GenId) (off : Nat) (m : hasOffset p g off = true) :
    inRange p.win (genAddr p g off) = true := by
  obtain ⟨a, b, c⟩ := Params.wf_inside h _ (genRange_mem g)
  rw [hasOffset_iff, rangeSize] at m
  simp only [inRange_iff, genAddr]
  omega

theorem master_inWindow (h : p.wf = true) (k : Nat) (le : k ≤ 2) : inRange p.win (p.rngM.lo + k) = true := by
  obtain ⟨a, b, c⟩ := Params.wf_inside h p.rngM (by simp [Params.ranges])
  have := Params.wf_master h
  simp only [inRange_iff]
  omega

theorem storage_inWindow (h : p.wf = true) (i : Nat) (lt : i < rangeSize p.rngW) :
    inRange p.win (p.rngW.lo + i) = true := by
  obtain ⟨a, b, c⟩ := Params.wf_inside h p.rngW (by simp [Params.ranges])
  simp only [rangeSize] at lt
  simp only [inRange_iff]
  omega

/-- Only an address of the window is routed to the fill region. -/
theorem fill_inWindow (a : Nat) (h : route p a = .fill) : inRange p.win a = true := by
  unfold route at h
  split at h
  · cases h
  · simp only [inRange_iff]
    omega

/-- The fields of a canonical command word (R71) are its operands. -/
theorem cmdFields_rd (a : Nat) (h : a < 2 ^ p.addrBits) :
    encodeCmd p (.rd a) < 2 ^ cmdBits p ∧ cmdOp p (encodeCmd p (.rd a)) = 2 ∧ cmdAddr p (encodeCmd p (.rd a)) = a := by
  simp only [encodeCmd, cmdBits, cmdOp, cmdAddr, Nat.pow_add]
  generalize 2 ^ p.addrBits = n at *
  have e : 2 * (n * 2 ^ 8) + a * 2 ^ 8 = a * 2 ^ 8 + 2 * (n * 2 ^ 8) := by omega
  refine ⟨by omega, ?_, ?_⟩
  · rw [e, Nat.add_mul_div_right _ _ (by omega), Nat.div_eq_of_lt (by omega)]
  · have : (2 * (n * 2 ^ 8) + a * 2 ^ 8) / 2 ^ 8 = a + n * 2 := by omega
    rw [this, Nat.add_mul_mod_self_left, Nat.mod_eq_of_lt h]

theorem cmdFields_wr (a : Nat) (d : Byte) (h : a < 2 ^ p.addrBits) :
    encodeCmd p (.wr a d) < 2 ^ cmdBits p ∧ cmdOp p (encodeCmd p (.wr a d)) = 3
      ∧ cmdAddr p (encodeCmd p (.wr a d)) = a ∧ cmdData (encodeCmd p (.wr a d)) = d := by
  have hd := d.isLt
  simp only [encodeCmd, cmdBits, cmdOp, cmdAddr, cmdData, Nat.pow_add]
  generalize 2 ^ p.addrBits = n at *
  have e : 3 * (n * 2 ^ 8) + a * 2 ^ 8 + d.toNat = a * 2 ^ 8 + d.toNat + 3 * (n * 2 ^ 8) := by omega
  refine ⟨by omega, ?_, ?_, ?_⟩
  · rw [e, Nat.add_mul_div_right _ _ (by omega), Nat.div_eq_of_lt (by omega)]
  · have : (3 * (n * 2 ^ 8) + a * 2 ^ 8 + d.toNat) / 2 ^ 8 = a + n * 3 := by omega
    rw [this, Nat.add_mul_mod_self_left, Nat.mod_eq_of_lt h]
  · apply BitVec.eq_of_toNat_eq
    rw [BitVec.toNat_ofNat]
    omega

/-- A command is decoded from its canonical word. -/
theorem decode_encodeCmd_rd (a : Nat) (h : a < 2 ^ p.addrBits) :
    decode p (encodeCmd p (.rd a)) = .ok (decodeRd p a) := by
  obtain ⟨h1, h2, h3⟩ := cmdFields_rd a h
  simp [decode, h1, h2, h3]

theorem decode_encodeCmd_wr (a : Nat) (d : Byte) (h : a < 2 ^ p.addrBits) :
    decode p (encodeCmd p (.wr a d)) = .ok (decodeWr p a d) := by
  obtain ⟨h1, h2, h3, h4⟩ := cmdFields_wr a d h
  simp [decode, h1, h2, h3, h4]

end Sys2Proof
end

