-- ==== Sys2Proof/Laws/Bus.lean ====
section
/-! SUPPORT. What a step, a command word and a bus access do, once for each shared operation, for every address. -/

namespace Sys2Proof.Machine

variable {s : State} {a : Nat} {d : Byte} {rest : List HostMove}

/-- Under well-formed parameters a step makes the host's first move. -/
theorem step_of_pending {m : HostMove} (ok : paramsOk s = true) (sound : s.hostFault = none) (h : s.pending = m :: rest) :
    step s = hostMove m { s with pending := rest } := by simp [step, ok, nextMove, sound, makeMove, h]

/-- A `RESET` word is one that decodes to `RESET`. -/
theorem isResetWord_iff (p : Params) (w : Nat) : isResetWord p w = true ↔ decode p w = .ok (.instr .reset) := by
  unfold isResetWord
  cases decode p w with
  | error e => simp
  | ok c =>
    cases c with
    | instr i => cases i <;> simp
    | _ => simp

/-- `RESET` is next exactly if the first pending move is a command word that decodes to it. -/
theorem resetNext_iff (s : State) :
    resetNext s = true ↔ ∃ w rest, s.pending = .cmd w :: rest ∧ decode s.par w = .ok (.instr .reset) := by
  unfold resetNext
  split <;> simp_all [isResetWord_iff]

/-- After a host fault a step is the host's `RESET` or the fault (R241, R260). -/
theorem step_faulted {c : HostCause} (ok : paramsOk s = true) (faulted : s.hostFault = some c) :
    step s = if resetNext s then makeMove s else .fault (.hostInvariantViolation c) := by
  simp [step, ok, nextMove, faulted, orTerminal]

/-- `RESET` runs whatever the state is (R260). -/
theorem makeMove_reset {w : Nat} (h : s.pending = .cmd w :: rest) (d : decode s.par w = .ok (.instr .reset)) :
    makeMove s = exec .reset { s with pending := rest } := by
  simp [makeMove, h, hostMove, runCommand, d, issue, Command.isAccess, Instr.isAccess, runDecoded]

/-- Raising the host fault: latched if `RESET` follows, else terminal. -/
theorem hostViolation_eq (c : HostCause) (s : State) : hostViolation c s
    = if resetNext s then .next { s with hostFault := some c } else .fault (.hostInvariantViolation c) := rfl

theorem paramsOk_wf (ok : paramsOk s = true) : s.par.wf = true := by
  simp only [paramsOk, Bool.and_eq_true] at ok
  exact ok.1

/-- A step of a canonical `RD` word while the context is suspended. -/
theorem step_rd (ok : paramsOk s = true) (sound : s.hostFault = none) (su : s.suspended = true) (lt : a < 2 ^ s.par.addrBits)
    (h : s.pending = .cmd (encodeCmd s.par (.rd a)) :: rest) :
    step s = runDecoded (decodeRd s.par a) { s with pending := rest } := by
  rw [step_of_pending ok sound h]
  simp [hostMove, runCommand, decode_encodeCmd_rd a lt, issue, su]

/-- A step of a canonical `WR` word while the context is suspended. -/
theorem step_wr (ok : paramsOk s = true) (sound : s.hostFault = none) (su : s.suspended = true) (lt : a < 2 ^ s.par.addrBits)
    (h : s.pending = .cmd (encodeCmd s.par (.wr a d)) :: rest) :
    step s = runDecoded (decodeWr s.par a d) { s with pending := rest } := by
  rw [step_of_pending ok sound h]
  simp [hostMove, runCommand, decode_encodeCmd_wr a d lt, issue, su]

/-- The instruction of a generator's `RD` row reads that generator's register. -/
theorem exec_rdGenRow {g : GenId} {off : Nat} {i : Instr} (h : rdGenRow g off = some i) (s : State) :
    exec i s = done (readGenerator g off s) := by
  unfold rdGenRow at h
  split at h <;> cases h <;> rfl

/-- The instruction of a generator's `WR` row writes that generator's register. -/
theorem exec_wrGenRow {g : GenId} {off : Nat} {i : Instr} (h : wrGenRow g off d = some i) (s : State) :
    exec i s = done (writeGenerator g off d s) := by
  unfold wrGenRow at h
  split at h <;> cases h <;> rfl

variable (s) in
/-- The `RD` command at an address does what its region says, for every region (R140, R144). -/
theorem runDecoded_decodeRd (p : Params) (a : Nat) : runDecoded (decodeRd p a) s = done
    (match route p a with
      | .notSelected => respond none s
      | .gen g off => readGenerator g off s
      | .mvol => respond (some s.mvol) s
      | .mroute => respond (some s.mroute) s
      | .mctrl => respond (some (mctrlByte s)) s
      | .storage i => readStorage i s
      | .fill => respond (some fillByte) s) := by
  unfold decodeRd
  cases route p a with
  | gen g off =>
    dsimp only
    generalize e : rdGenRow g off = o
    cases o with
    | none => rfl
    | some i => exact exec_rdGenRow e s
  | fill =>
    dsimp only
    split <;> rfl
  | _ => rfl

variable (s) in
/-- The `WR` command at an address does what its region says, for every region (R141, R143, R144). -/
theorem runDecoded_decodeWr (p : Params) (a : Nat) (d : Byte) : runDecoded (decodeWr p a d) s = done
    (match route p a with
      | .notSelected => s
      | .gen g off => writeGenerator g off d s
      | .mvol => gated (fun s => { s with mvol := d }) s
      | .mroute => gated (fun s => { s with mroute := d }) s
      | .mctrl => setMenable d s
      | .storage i => writeStorage i d s
      | .fill => s) := by
  unfold decodeWr
  cases route p a with
  | gen g off =>
    dsimp only
    generalize e : wrGenRow g off d = o
    cases o with
    | none => rfl
    | some i => exact exec_wrGenRow e s
  | fill =>
    dsimp only
    split <;> rfl
  | _ => rfl

/-- `gated` with the gate open and closed (R143). -/
theorem gated_open (f : State → State) (h : s.menable = true) : gated f s = f s := by simp [gated, h]
theorem gated_closed (f : State → State) (h : s.menable = false) : gated f s = s := by simp [gated, h]

/-- A command that keeps the host's rule (R61) is run. -/
theorem issue_lawful (c : Command) (h : c.isAccess = true → s.suspended = true) : issue c s = runDecoded c s := by
  unfold issue
  cases e : c.isAccess with
  | false => rfl
  | true => rw [h e]; rfl

/-- A move inside a cycle (log 12): what `issue` answers to an access while the context runs. -/
theorem issue_access_running (c : Command) (h : c.isAccess = true) (run : s.suspended = false) :
    issue c s = hostViolation .accessDuringCycle s := by simp [issue, h, run]

theorem rdGenRow_isAccess {g : GenId} {off : Nat} {i : Instr} (h : rdGenRow g off = some i) : i.isAccess = true := by
  unfold rdGenRow at h
  split at h <;> cases h <;> rfl

theorem wrGenRow_isAccess {g : GenId} {off : Nat} {i : Instr} (h : wrGenRow g off d = some i) : i.isAccess = true := by
  unfold wrGenRow at h
  split at h <;> cases h <;> rfl

@[simp] theorem decodeRd_isAccess (p : Params) (a : Nat) : (decodeRd p a).isAccess = true := by
  unfold decodeRd
  cases route p a with
  | gen g off =>
    dsimp only
    generalize e : rdGenRow g off = o
    cases o with
    | none => rfl
    | some i => exact rdGenRow_isAccess e
  | fill =>
    dsimp only
    split <;> rfl
  | _ => rfl

@[simp] theorem decodeWr_isAccess (p : Params) (a : Nat) (d : Byte) : (decodeWr p a d).isAccess = true := by
  unfold decodeWr
  cases route p a with
  | gen g off =>
    dsimp only
    generalize e : wrGenRow g off d = o
    cases o with
    | none => rfl
    | some i => exact wrGenRow_isAccess e
  | fill =>
    dsimp only
    split <;> rfl
  | _ => rfl

end Sys2Proof.Machine
end

