-- ==== Sys2Proof/Laws/Filter.lean ====
section
/-! SUPPORT. One step of the DC-blocking filter in exact arithmetic (spec/42_dc_filter.md R126): where the new accumulator
lies, from which the bound of R130 and the approach of R131 follow. -/

namespace Sys2Proof.Machine

theorem shl_zero_left (n : Nat) : shl 0 n = 0 := by simp [shl]
theorem shr_zero_left (n : Nat) : shr 0 n = 0 := by simp [shr]

/-- `2^(2n)` is the square of `2^n`. -/
theorem pow_two_mul (n : Nat) : (2 : Nat) ^ (2 * n) = (2 ^ n) ^ 2 := by rw [Nat.mul_comm, Nat.pow_mul]

/-- The value the accumulator approaches: `x * 2^(2A)` and the bits that the shift of the accumulator drops. -/
def hpfTarget (p : Params) (bias x : Int) : Int :=
  x * ((2 ^ p.shiftA : Nat) : Int) ^ 2 + bias % ((2 ^ p.shiftA : Nat) : Int)

/-- The distance to the target is the difference `d`, shifted back. -/
theorem hpfTarget_eq (p : Params) (bias x : Int) :
    hpfTarget p bias x = bias + hpfDiff p bias x * ((2 ^ p.shiftA : Nat) : Int) := by
  unfold hpfTarget hpfDiff shl shr
  have := Int.emod_add_mul_ediv bias ((2 ^ p.shiftA : Nat) : Int)
  linear_combination this

/-- With `0 < K <= 2^(2*SHIFT_A)` the new accumulator lies between the old one and the target. -/
theorem hpfBias_between (p : Params) (bias x : Int) (kpos : 0 < p.k) (kle : p.k ≤ 2 ^ (2 * p.shiftA)) :
    (0 ≤ hpfDiff p bias x → bias ≤ hpfBias p bias x ∧ hpfBias p bias x ≤ hpfTarget p bias x)
      ∧ (hpfDiff p bias x ≤ 0 → hpfBias p bias x ≤ bias ∧ hpfTarget p bias x ≤ hpfBias p bias x) := by
  rw [hpfTarget_eq]
  rw [pow_two_mul] at kle
  unfold hpfBias shr
  generalize hpfDiff p bias x = d
  have Apos : (0 : Int) < ((2 ^ p.shiftA : Nat) : Int) := by positivity
  have k0 : (0 : Int) < (p.k : Int) := by exact_mod_cast kpos
  have kA : (p.k : Int) ≤ ((2 ^ p.shiftA : Nat) : Int) ^ 2 := by exact_mod_cast kle
  generalize ((2 ^ p.shiftA : Nat) : Int) = A at *
  have square : d * A ^ 2 / A = d * A := by rw [pow_two, ← mul_assoc, Int.mul_ediv_cancel _ (ne_of_gt Apos)]
  constructor
  · intro h
    have lo := Int.ediv_nonneg (mul_nonneg h k0.le) Apos.le
    have hi := Int.ediv_le_ediv Apos (mul_le_mul_of_nonneg_left kA h)
    omega
  · intro h
    have hi := Int.ediv_le_ediv Apos (mul_nonpos_of_nonpos_of_nonneg h k0.le)
    have lo := Int.ediv_le_ediv Apos (mul_le_mul_of_nonpos_left kA h)
    rw [Int.zero_ediv] at hi
    omega

/-- The saturation of R127 in one line. -/
theorem clamp16_eq (x : Int) : clamp16 x = max (-32768) (min 32767 x) := by
  unfold clamp16
  split_ifs <;> omega

end Sys2Proof.Machine
end

