-- ==== Sys2Proof/Laws/Generator.lean ====
section
/-! SUPPORT. What each operation of RefGen leaves unchanged, one lemma for each field, and the small facts about the
frequency register and the samples that proofs about generators need. -/

namespace Sys2Proof.Machine

variable (r : RefGen)

/-- The low byte of the frequency is what offset 3 wrote (R195). -/
@[simp] theorem freq_low (h : BitVec 3) (v : Byte) : (h ++ v : BitVec 11).extractLsb' 0 8 = v :=
  BitVec.extractLsb'_append_eq_right

/-- The high bits of the frequency are what offset 4 wrote (R195). -/
@[simp] theorem freq_high (h : BitVec 3) (v : Byte) : (h ++ v : BitVec 11).extractLsb' 8 3 = h :=
  BitVec.extractLsb'_append_eq_left

/-- `run` presents the volume of an active generator and 0 of a disabled one (R197). -/
@[simp] theorem refRun_smp : (refRun r).smp = if r.active then r.vol else 0 := rfl

@[simp] theorem refRun_r0 : (refRun r).r0 = r.r0 := rfl
@[simp] theorem refRun_r1 : (refRun r).r1 = r.r1 := rfl
@[simp] theorem refRun_r2 : (refRun r).r2 = r.r2 := rfl
@[simp] theorem refRun_r3 : (refRun r).r3 = r.r3 := rfl
@[simp] theorem refRun_active : (refRun r).active = r.active := rfl
@[simp] theorem refRun_lenMode : (refRun r).lenMode = r.lenMode := rfl
@[simp] theorem refRun_len : (refRun r).len = r.len := rfl
@[simp] theorem refRun_vol : (refRun r).vol = r.vol := rfl
@[simp] theorem refRun_envCnt : (refRun r).envCnt = r.envCnt := rfl
@[simp] theorem refRun_freq : (refRun r).freq = r.freq := rfl
@[simp] theorem refRun_swCnt : (refRun r).swCnt = r.swCnt := rfl
@[simp] theorem refRun_store : (refRun r).store = r.store := rfl

@[simp] theorem refClockLength_r0 : (refClockLength r).r0 = r.r0 := by unfold refClockLength; split <;> rfl
@[simp] theorem refClockLength_r1 : (refClockLength r).r1 = r.r1 := by unfold refClockLength; split <;> rfl
@[simp] theorem refClockLength_r2 : (refClockLength r).r2 = r.r2 := by unfold refClockLength; split <;> rfl
@[simp] theorem refClockLength_r3 : (refClockLength r).r3 = r.r3 := by unfold refClockLength; split <;> rfl
@[simp] theorem refClockLength_lenMode : (refClockLength r).lenMode = r.lenMode := by unfold refClockLength; split <;> rfl
@[simp] theorem refClockLength_vol : (refClockLength r).vol = r.vol := by unfold refClockLength; split <;> rfl
@[simp] theorem refClockLength_envCnt : (refClockLength r).envCnt = r.envCnt := by unfold refClockLength; split <;> rfl
@[simp] theorem refClockLength_freq : (refClockLength r).freq = r.freq := by unfold refClockLength; split <;> rfl
@[simp] theorem refClockLength_swCnt : (refClockLength r).swCnt = r.swCnt := by unfold refClockLength; split <;> rfl
@[simp] theorem refClockLength_smp : (refClockLength r).smp = r.smp := by unfold refClockLength; split <;> rfl
@[simp] theorem refClockLength_store : (refClockLength r).store = r.store := by unfold refClockLength; split <;> rfl

@[simp] theorem refSweepStep_r0 (m : Nat) : (refSweepStep m r).r0 = r.r0 := by unfold refSweepStep; dsimp only; split; rfl; split <;> rfl
@[simp] theorem refSweepStep_r1 (m : Nat) : (refSweepStep m r).r1 = r.r1 := by unfold refSweepStep; dsimp only; split; rfl; split <;> rfl
@[simp] theorem refSweepStep_r2 (m : Nat) : (refSweepStep m r).r2 = r.r2 := by unfold refSweepStep; dsimp only; split; rfl; split <;> rfl
@[simp] theorem refSweepStep_r3 (m : Nat) : (refSweepStep m r).r3 = r.r3 := by unfold refSweepStep; dsimp only; split; rfl; split <;> rfl
@[simp] theorem refSweepStep_lenMode (m : Nat) : (refSweepStep m r).lenMode = r.lenMode := by unfold refSweepStep; dsimp only; split; rfl; split <;> rfl
@[simp] theorem refSweepStep_len (m : Nat) : (refSweepStep m r).len = r.len := by unfold refSweepStep; dsimp only; split; rfl; split <;> rfl
@[simp] theorem refSweepStep_vol (m : Nat) : (refSweepStep m r).vol = r.vol := by unfold refSweepStep; dsimp only; split; rfl; split <;> rfl
@[simp] theorem refSweepStep_envCnt (m : Nat) : (refSweepStep m r).envCnt = r.envCnt := by unfold refSweepStep; dsimp only; split; rfl; split <;> rfl
@[simp] theorem refSweepStep_swCnt (m : Nat) : (refSweepStep m r).swCnt = r.swCnt := by unfold refSweepStep; dsimp only; split; rfl; split <;> rfl
@[simp] theorem refSweepStep_smp (m : Nat) : (refSweepStep m r).smp = r.smp := by unfold refSweepStep; dsimp only; split; rfl; split <;> rfl
@[simp] theorem refSweepStep_store (m : Nat) : (refSweepStep m r).store = r.store := by unfold refSweepStep; dsimp only; split; rfl; split <;> rfl

@[simp] theorem refTrigger_r0 (g : GenId) : (refTrigger g r).r0 = r.r0 := rfl
@[simp] theorem refTrigger_r1 (g : GenId) : (refTrigger g r).r1 = r.r1 := rfl
@[simp] theorem refTrigger_r2 (g : GenId) : (refTrigger g r).r2 = r.r2 := rfl
@[simp] theorem refTrigger_r3 (g : GenId) : (refTrigger g r).r3 = r.r3 := rfl
@[simp] theorem refTrigger_lenMode (g : GenId) : (refTrigger g r).lenMode = r.lenMode := rfl
@[simp] theorem refTrigger_freq (g : GenId) : (refTrigger g r).freq = r.freq := rfl
@[simp] theorem refTrigger_smp (g : GenId) : (refTrigger g r).smp = r.smp := rfl
@[simp] theorem refTrigger_store (g : GenId) : (refTrigger g r).store = r.store := rfl

/-- The length clock of a RefGen, by its two cases (R198). -/
theorem refClockLength_cases :
    ((r.active = false ∨ r.len = 0) ∧ refClockLength r = r)
      ∨ (r.active = true ∧ r.len ≠ 0
        ∧ refClockLength r = { r with len := r.len - 1, active := !(r.len - 1 == 0 && r.lenMode) }) := by
  unfold refClockLength
  cases ha : r.active with
  | false => exact .inl ⟨.inl rfl, by simp⟩
  | true =>
    by_cases hl : r.len = 0
    · exact .inl ⟨.inr hl, by simp [hl]⟩
    · refine .inr ⟨rfl, hl, ?_⟩
      rw [if_pos (by simpa using hl)]
      cases r.len - 1 == 0 && r.lenMode <;> rfl

/-- The sweep clock of a RefGen, by its three cases (R200). -/
theorem refClockSweep_cases (m : Nat) :
    ((r.active = false ∨ r.r0.extractLsb' 4 3 = 0) ∧ refClockSweep m r = r)
      ∨ (r.active = true ∧ r.r0.extractLsb' 4 3 ≠ 0
        ∧ (let c := if 0 < r.swCnt then r.swCnt - 1 else r.swCnt
          (c ≠ 0 ∧ refClockSweep m r = { r with swCnt := c })
            ∨ (c = 0 ∧ refClockSweep m r = refSweepStep m { r with swCnt := r.r0.extractLsb' 4 3 }))) := by
  unfold refClockSweep
  cases ha : r.active with
  | false => exact .inl ⟨.inl rfl, by simp⟩
  | true =>
    by_cases hp : r.r0.extractLsb' 4 3 = 0
    · exact .inl ⟨.inr hp, by simp [hp]⟩
    · refine .inr ⟨rfl, hp, ?_⟩
      dsimp only
      generalize (if 0 < r.swCnt then r.swCnt - 1 else r.swCnt) = c
      rw [if_pos (by simpa using hp)]
      by_cases hc : c = 0
      · exact .inr ⟨hc, by rw [if_pos hc]⟩
      · exact .inl ⟨hc, by rw [if_neg hc]⟩

/-- The envelope clock of a RefGen, by its three cases (R199). -/
theorem refClockEnvelope_cases :
    (r.r2.extractLsb' 0 3 = 0 ∧ refClockEnvelope r = r)
      ∨ (r.r2.extractLsb' 0 3 ≠ 0
        ∧ (let c := if 0 < r.envCnt then r.envCnt - 1 else r.envCnt
          (c ≠ 0 ∧ refClockEnvelope r = { r with envCnt := c })
            ∨ (c = 0 ∧ refClockEnvelope r
              = { r with envCnt := r.r2.extractLsb' 0 3, vol := refVolumeStep r }))) := by
  unfold refClockEnvelope
  dsimp only
  by_cases hp : r.r2.extractLsb' 0 3 = 0
  · exact .inl ⟨hp, by rw [if_pos hp]⟩
  · refine .inr ⟨hp, ?_⟩
    generalize (if 0 < r.envCnt then r.envCnt - 1 else r.envCnt) = c
    rw [if_neg hp]
    by_cases hc : c = 0
    · exact .inr ⟨hc, by rw [if_pos hc]⟩
    · exact .inl ⟨hc, by rw [if_neg hc]⟩

@[simp] theorem refClockEnvelope_r0 : (refClockEnvelope r).r0 = r.r0 := by
  obtain ⟨-, h⟩ | ⟨-, ⟨-, h⟩ | ⟨-, h⟩⟩ := refClockEnvelope_cases r <;> rw [h]
@[simp] theorem refClockEnvelope_r1 : (refClockEnvelope r).r1 = r.r1 := by
  obtain ⟨-, h⟩ | ⟨-, ⟨-, h⟩ | ⟨-, h⟩⟩ := refClockEnvelope_cases r <;> rw [h]
@[simp] theorem refClockEnvelope_r2 : (refClockEnvelope r).r2 = r.r2 := by
  obtain ⟨-, h⟩ | ⟨-, ⟨-, h⟩ | ⟨-, h⟩⟩ := refClockEnvelope_cases r <;> rw [h]
@[simp] theorem refClockEnvelope_r3 : (refClockEnvelope r).r3 = r.r3 := by
  obtain ⟨-, h⟩ | ⟨-, ⟨-, h⟩ | ⟨-, h⟩⟩ := refClockEnvelope_cases r <;> rw [h]
@[simp] theorem refClockEnvelope_active : (refClockEnvelope r).active = r.active := by
  obtain ⟨-, h⟩ | ⟨-, ⟨-, h⟩ | ⟨-, h⟩⟩ := refClockEnvelope_cases r <;> rw [h]
@[simp] theorem refClockEnvelope_lenMode : (refClockEnvelope r).lenMode = r.lenMode := by
  obtain ⟨-, h⟩ | ⟨-, ⟨-, h⟩ | ⟨-, h⟩⟩ := refClockEnvelope_cases r <;> rw [h]
@[simp] theorem refClockEnvelope_len : (refClockEnvelope r).len = r.len := by
  obtain ⟨-, h⟩ | ⟨-, ⟨-, h⟩ | ⟨-, h⟩⟩ := refClockEnvelope_cases r <;> rw [h]
@[simp] theorem refClockEnvelope_freq : (refClockEnvelope r).freq = r.freq := by
  obtain ⟨-, h⟩ | ⟨-, ⟨-, h⟩ | ⟨-, h⟩⟩ := refClockEnvelope_cases r <;> rw [h]
@[simp] theorem refClockEnvelope_swCnt : (refClockEnvelope r).swCnt = r.swCnt := by
  obtain ⟨-, h⟩ | ⟨-, ⟨-, h⟩ | ⟨-, h⟩⟩ := refClockEnvelope_cases r <;> rw [h]
@[simp] theorem refClockEnvelope_smp : (refClockEnvelope r).smp = r.smp := by
  obtain ⟨-, h⟩ | ⟨-, ⟨-, h⟩ | ⟨-, h⟩⟩ := refClockEnvelope_cases r <;> rw [h]
@[simp] theorem refClockEnvelope_store : (refClockEnvelope r).store = r.store := by
  obtain ⟨-, h⟩ | ⟨-, ⟨-, h⟩ | ⟨-, h⟩⟩ := refClockEnvelope_cases r <;> rw [h]

/-- The volume step in numbers (R199): one up to 15, or one down to 0. -/
theorem refVolumeStep_toNat :
    (refVolumeStep r).toNat = if r.r2.getLsbD 3 then min 15 (r.vol.toNat + 1) else r.vol.toNat - 1 := by
  have h : ∀ v : BitVec 4, (if v < 15 then v + 1 else v).toNat = min 15 (v.toNat + 1)
      ∧ (if 0 < v then v - 1 else v).toNat = v.toNat - 1 := by decide
  unfold refVolumeStep volumeStep
  split
  · exact (h r.vol).1
  · exact (h r.vol).2

/-- A volume step moves by at most one, in its own direction, within 0 and 15 (R181). -/
theorem volumeStep_bounds (up : Bool) (v : BitVec 4) :
    (up = true → v.toNat ≤ (volumeStep up v).toNat ∧ (volumeStep up v).toNat ≤ v.toNat + 1)
      ∧ (up = false → (volumeStep up v).toNat ≤ v.toNat ∧ v.toNat ≤ (volumeStep up v).toNat + 1) := by
  revert up v; decide

/-- The sample of a generator of unknown inside keeps the bound of R175. -/
theorem genSample_unknown_le (p : Params) (c : ContractGen) : genSample p (.unknown c) ≤ p.genSampleMax :=
  Nat.min_le_left _ _

variable (p : Params) (c : ContractGen) (g : GenId)

/-- `run()` changes the waveform, the sample and what is fresh, nothing else (R174). -/
theorem contractRun_eq : contractRun p g c = { c with
    wave := .run :: c.wave, fresh := [], smp := if c.active then Config.genSample p g (.run :: c.wave) else 0 } := rfl

/-- A disabled generator ignores the length clock (R180). -/
theorem contractClockLength_disabled (h : c.active = false) : contractClockLength p g c = c := by
  simp [contractClockLength, h]

/-- An enabled generator counts down (R180). -/
theorem contractClockLength_counts (h : c.active = true) (pos : 0 < c.ctl.len) : contractClockLength p g c = lengthDown c := by
  simp [contractClockLength, h, pos]

/-- The volume of a generator of unknown inside stays or makes one clamped step (R181). -/
theorem contractClockEnvelope_vol :
    (contractClockEnvelope p g c).ctl.vol = volumeStep c.ctl.envUp c.ctl.vol
      ∨ (contractClockEnvelope p g c).ctl.vol = c.ctl.vol := by
  simp only [contractClockEnvelope]
  split <;> simp

/-- An envelope clock changes no other contract field than the volume and the counter (R181). -/
theorem contractClockEnvelope_frame :
    (contractClockEnvelope p g c).active = c.active ∧ (contractClockEnvelope p g c).dac = c.dac
      ∧ (contractClockEnvelope p g c).smp = c.smp
      ∧ (contractClockEnvelope p g c).ctl = { c.ctl with
        vol := (contractClockEnvelope p g c).ctl.vol, envCnt := (contractClockEnvelope p g c).ctl.envCnt } :=
  ⟨rfl, rfl, rfl, rfl⟩

/-- A sweep clock keeps a generator enabled only if every computed frequency is representable (R182). -/
theorem contractClockSweep_active :
    (contractClockSweep p c).active = true ↔ c.active = true
      ∧ ∀ f ∈ Config.genSweepComputed p (.clockSweep :: c.wave) c.ctl, f ≤ p.freqMax := by
  simp [contractClockSweep]

/-- A disabled generator is enabled by a trigger only (R179, R183). -/
theorem contractWrite_disabled (off : Nat) (v : Byte) (h : c.active = false) (no : isTrigger p g off v = false) :
    (contractWrite p g off v c).active = false := by
  simp [contractWrite, h, no]

/-- What a trigger leaves in the fields it reloads (R183). -/
theorem contractWrite_trigger (off : Nat) (v : Byte) (h : isTrigger p g off v = true) :
    (contractWrite p g off v c).active = mayBeActive g (dacAfter p g off v c.dac)
      ∧ (contractWrite p g off v c).ctl
        = triggered g (Config.genLoads p g (c.regs.set off v))
          (Config.genWritten p g (.write off v :: c.wave) c.ctl) := by
  simp [contractWrite, h]

/-- A write leaves its byte in the register, to be read back (R184). -/
theorem contractRead_contractWrite (off : Nat) (v : Byte) (plain : Config.genPlain p g off = true)
    (lt : off < c.regs.length) : contractRead p g off (contractWrite p g off v c) = v := by
  simp [contractRead, contractWrite, plain, lt]

/-- A stored byte is read back, and the others stay (R178). -/
theorem storeRead_set (store : List Byte) (i j : Nat) (v : Byte) :
    storeRead (store.set i v) j = if j = i ∧ i < store.length then v else storeRead store j := by
  unfold storeRead
  rw [List.getElem?_set]
  by_cases h : i = j
  · subst h
    by_cases lt : i < store.length
    · simp [lt]
    · simp [lt]
  · simp [h, Ne.symm h]

end Sys2Proof.Machine
end

