-- ==== Sys2Proof/Laws/PerInstr.lean ====
section
/-! SUPPORT. Statements about every instruction, one lemma for each constructor: `AddressInWindow`, an instruction that
exists under a well-formed parameter set addresses the window. -/

namespace Sys2Proof.Laws.AddressInWindow

open Sys2Proof.Machine

/-- The address of an operation, if it has one, lies in the window (R52). -/
def InWindow (p : Params) : Cmd → Prop
  | .cycle | .reset => True
  | .rd a | .wr a _ => inRange p.win a = true

/-- Under well-formed parameters a well-formed instruction addresses the window. -/
def Statement (i : Instr) : Prop := ∀ p : Params, p.wf = true → i.wf p = true → ∀ c, i.cmd p = some c → InWindow p c

theorem ofNone {i : Instr} (h : ∀ p, i.cmd p = none) : Statement i := fun p _ _ c e => by simp [h p] at e

theorem ofSome {i : Instr} {f : Params → Cmd} (h : ∀ p, i.cmd p = some (f p))
    (k : ∀ p : Params, p.wf = true → i.wf p = true → InWindow p (f p)) : Statement i := fun p wf iwf c e => by
  obtain rfl : f p = c := by simpa [h p] using e
  exact k p wf iwf

theorem clkLen : Statement .clkLen := ofNone fun _ => rfl
theorem clkSwp : Statement .clkSwp := ofNone fun _ => rfl
theorem clkEnv : Statement .clkEnv := ofNone fun _ => rfl
theorem seq : Statement .seq := ofNone fun _ => rfl
theorem run : Statement .run := ofNone fun _ => rfl
theorem mix : Statement .mix := ofNone fun _ => rfl
theorem hpf : Statement .hpf := ofNone fun _ => rfl
theorem emit : Statement .emit := ofNone fun _ => rfl
theorem cycle : Statement .cycle := ofSome (fun _ => rfl) fun _ _ _ => trivial
theorem reset : Statement .reset := ofSome (fun _ => rfl) fun _ _ _ => trivial
theorem rdG10 : Statement .rdG10 := ofSome (fun _ => rfl) fun _ wf m => genAddr_inWindow wf _ _ m
theorem wrG10 (d : Byte) : Statement (.wrG10 d) :=
  ofSome (fun _ => rfl) fun _ wf m => genAddr_inWindow wf _ _ m
theorem rdG11 : Statement .rdG11 := ofSome (fun _ => rfl) fun _ wf m => genAddr_inWindow wf _ _ m
theorem wrG11 (d : Byte) : Statement (.wrG11 d) :=
  ofSome (fun _ => rfl) fun _ wf m => genAddr_inWindow wf _ _ m
theorem rdG12 : Statement .rdG12 := ofSome (fun _ => rfl) fun _ wf m => genAddr_inWindow wf _ _ m
theorem wrG12 (d : Byte) : Statement (.wrG12 d) :=
  ofSome (fun _ => rfl) fun _ wf m => genAddr_inWindow wf _ _ m
theorem rdG13 : Statement .rdG13 := ofSome (fun _ => rfl) fun _ wf m => genAddr_inWindow wf _ _ m
theorem wrG13 (d : Byte) : Statement (.wrG13 d) :=
  ofSome (fun _ => rfl) fun _ wf m => genAddr_inWindow wf _ _ m
theorem rdG14 : Statement .rdG14 := ofSome (fun _ => rfl) fun _ wf m => genAddr_inWindow wf _ _ m
theorem wrG14 (d : Byte) : Statement (.wrG14 d) :=
  ofSome (fun _ => rfl) fun _ wf m => genAddr_inWindow wf _ _ m
theorem rdG20 : Statement .rdG20 := ofSome (fun _ => rfl) fun _ wf m => genAddr_inWindow wf _ _ m
theorem wrG20 (d : Byte) : Statement (.wrG20 d) :=
  ofSome (fun _ => rfl) fun _ wf m => genAddr_inWindow wf _ _ m
theorem rdG21 : Statement .rdG21 := ofSome (fun _ => rfl) fun _ wf m => genAddr_inWindow wf _ _ m
theorem wrG21 (d : Byte) : Statement (.wrG21 d) :=
  ofSome (fun _ => rfl) fun _ wf m => genAddr_inWindow wf _ _ m
theorem rdG22 : Statement .rdG22 := ofSome (fun _ => rfl) fun _ wf m => genAddr_inWindow wf _ _ m
theorem wrG22 (d : Byte) : Statement (.wrG22 d) :=
  ofSome (fun _ => rfl) fun _ wf m => genAddr_inWindow wf _ _ m
theorem rdG23 : Statement .rdG23 := ofSome (fun _ => rfl) fun _ wf m => genAddr_inWindow wf _ _ m
theorem wrG23 (d : Byte) : Statement (.wrG23 d) :=
  ofSome (fun _ => rfl) fun _ wf m => genAddr_inWindow wf _ _ m
theorem rdG24 : Statement .rdG24 := ofSome (fun _ => rfl) fun _ wf m => genAddr_inWindow wf _ _ m
theorem wrG24 (d : Byte) : Statement (.wrG24 d) :=
  ofSome (fun _ => rfl) fun _ wf m => genAddr_inWindow wf _ _ m
theorem rdG30 : Statement .rdG30 := ofSome (fun _ => rfl) fun _ wf m => genAddr_inWindow wf _ _ m
theorem wrG30 (d : Byte) : Statement (.wrG30 d) :=
  ofSome (fun _ => rfl) fun _ wf m => genAddr_inWindow wf _ _ m
theorem rdG31 : Statement .rdG31 := ofSome (fun _ => rfl) fun _ wf m => genAddr_inWindow wf _ _ m
theorem wrG31 (d : Byte) : Statement (.wrG31 d) :=
  ofSome (fun _ => rfl) fun _ wf m => genAddr_inWindow wf _ _ m
theorem rdG32 : Statement .rdG32 := ofSome (fun _ => rfl) fun _ wf m => genAddr_inWindow wf _ _ m
theorem wrG32 (d : Byte) : Statement (.wrG32 d) :=
  ofSome (fun _ => rfl) fun _ wf m => genAddr_inWindow wf _ _ m
theorem rdG33 : Statement .rdG33 := ofSome (fun _ => rfl) fun _ wf m => genAddr_inWindow wf _ _ m
theorem wrG33 (d : Byte) : Statement (.wrG33 d) :=
  ofSome (fun _ => rfl) fun _ wf m => genAddr_inWindow wf _ _ m
theorem rdG34 : Statement .rdG34 := ofSome (fun _ => rfl) fun _ wf m => genAddr_inWindow wf _ _ m
theorem wrG34 (d : Byte) : Statement (.wrG34 d) :=
  ofSome (fun _ => rfl) fun _ wf m => genAddr_inWindow wf _ _ m
theorem rdG40 : Statement .rdG40 := ofSome (fun _ => rfl) fun _ wf m => genAddr_inWindow wf _ _ m
theorem wrG40 (d : Byte) : Statement (.wrG40 d) :=
  ofSome (fun _ => rfl) fun _ wf m => genAddr_inWindow wf _ _ m
theorem rdG41 : Statement .rdG41 := ofSome (fun _ => rfl) fun _ wf m => genAddr_inWindow wf _ _ m
theorem wrG41 (d : Byte) : Statement (.wrG41 d) :=
  ofSome (fun _ => rfl) fun _ wf m => genAddr_inWindow wf _ _ m
theorem rdG42 : Statement .rdG42 := ofSome (fun _ => rfl) fun _ wf m => genAddr_inWindow wf _ _ m
theorem wrG42 (d : Byte) : Statement (.wrG42 d) :=
  ofSome (fun _ => rfl) fun _ wf m => genAddr_inWindow wf _ _ m
theorem rdG43 : Statement .rdG43 := ofSome (fun _ => rfl) fun _ wf m => genAddr_inWindow wf _ _ m
theorem wrG43 (d : Byte) : Statement (.wrG43 d) :=
  ofSome (fun _ => rfl) fun _ wf m => genAddr_inWindow wf _ _ m
theorem rdG44 : Statement .rdG44 := ofSome (fun _ => rfl) fun _ wf m => genAddr_inWindow wf _ _ m
theorem wrG44 (d : Byte) : Statement (.wrG44 d) :=
  ofSome (fun _ => rfl) fun _ wf m => genAddr_inWindow wf _ _ m
theorem rdMvol : Statement .rdMvol := ofSome (fun _ => rfl) fun _ wf _ => master_inWindow wf 0 (by omega)
theorem wrMvol (d : Byte) : Statement (.wrMvol d) :=
  ofSome (fun _ => rfl) fun _ wf _ => master_inWindow wf 0 (by omega)
theorem rdMroute : Statement .rdMroute := ofSome (fun _ => rfl) fun _ wf _ => master_inWindow wf 1 (by omega)
theorem wrMroute (d : Byte) : Statement (.wrMroute d) :=
  ofSome (fun _ => rfl) fun _ wf _ => master_inWindow wf 1 (by omega)
theorem rdMctrl : Statement .rdMctrl := ofSome (fun _ => rfl) fun _ wf _ => master_inWindow wf 2 (by omega)
theorem wrMctrl (d : Byte) : Statement (.wrMctrl d) :=
  ofSome (fun _ => rfl) fun _ wf _ => master_inWindow wf 2 (by omega)
theorem rdFill27 : Statement .rdFill27 :=
  ofSome (fun _ => rfl) fun _ _ m => fill_inWindow _ (by simpa [Instr.wf] using m)
theorem wrFill27 (d : Byte) : Statement (.wrFill27 d) :=
  ofSome (fun _ => rfl) fun _ _ m => fill_inWindow _ (by simpa [Instr.wf] using m)
theorem rdFill28 (a : Nat) : Statement (.rdFill28 a) :=
  ofSome (fun _ => rfl) fun _ _ m => fill_inWindow _ (by simp [Instr.wf, isOtherFill] at m; exact m.1)
theorem wrFill28 (a : Nat) (d : Byte) : Statement (.wrFill28 a d) :=
  ofSome (fun _ => rfl) fun _ _ m => fill_inWindow _ (by simp [Instr.wf, isOtherFill] at m; exact m.1)
theorem rdW (i : Nat) : Statement (.rdW i) :=
  ofSome (fun _ => rfl) fun _ wf m => storage_inWindow wf i (by simpa [Instr.wf] using m)
theorem wrW (i : Nat) (d : Byte) : Statement (.wrW i d) :=
  ofSome (fun _ => rfl) fun _ wf m => storage_inWindow wf i (by simpa [Instr.wf] using m)

end Sys2Proof.Laws.AddressInWindow
end

