-- ==== Sys2Proof/Tests/Slice0.lean ====
section
/-! SUPPORT. The model's own tests: the well-formedness smoke tests, a written-out word for every constructor, one step of
every instruction, and a witness for the hypotheses of every statement. Expected values are taken from
spec/30_encoding.md R75 to R80 (words), spec/95_test_vectors.md (the vectors named beside each test) and, for the
register tests, from spec/44_generator_interface.md R194 and R195 by hand. -/

namespace Sys2Proof.Tests

open Sys2Proof Sys2Proof.Machine

/-- The outcome is a next state with the property. -/
def onNext (o : Host.Outcome State Fault Refusal) (p : State → Bool) : Bool :=
  match o with
  | .next t => p t
  | .fault _ => false
  | .refused _ => false

/-- A RefGen of all zeros. -/
def zeroGen : RefGen := refPower [] .g1

/-- The state after reset with zeroed generators, the gate open and the storage of generator 3 known. -/
def lab : State :=
  { State.reset with
    menable := true
    gen1 := .refGen zeroGen
    gen2 := .refGen zeroGen
    gen3 := .refGen { zeroGen with store := List.replicate 16 0x12 }
    gen4 := .refGen zeroGen }

/-- A RefGen with a different value in every register: `len_mode` 1 and `freq` 0x5AB. -/
def regsGen : RefGen := { zeroGen with r0 := 0x91, r1 := 0x92, r2 := 0x93, r3 := 0x94, lenMode := true, freq := 0x5AB }

/-- `lab` with `regsGen` as generator `g`. -/
def labRegs (g : GenId) : State := setGen g (.refGen regsGen) lab

/-- `lab` whose generators present the given samples. -/
def labSmp (a b c d : BitVec 4) : State :=
  { lab with
    gen1 := .refGen { zeroGen with smp := a }
    gen2 := .refGen { zeroGen with smp := b }
    gen3 := .refGen { zeroGen with smp := c }
    gen4 := .refGen { zeroGen with smp := d } }

/-- `lab` with all four generators active at volume 15. -/
def labLoud : State :=
  let r := { zeroGen with active := true, vol := 15, r0 := 0x80 }
  { lab with gen1 := .refGen r, gen2 := .refGen { r with r0 := 0 }, gen3 := .refGen r, gen4 := .refGen r }

/-- The RefGen of generator `g` has the property. -/
def genIs (g : GenId) (p : RefGen → Bool) (s : State) : Bool :=
  match getGen g s with
  | .refGen r => p r
  | .unknown _ => false

/-- A generator of unknown inside: enabled, length-limited with a length of 2, at volume 13 with its envelope upwards. -/
def unk : ContractGen where
  active := true
  ctl := { zeroControl with len := 2, lenMode := true, vol := 13, envUp := true }
  dac := true
  smp := 7
  wave := [.run]
  regs := [1, 2, 3, 4, 5]
  fresh := [2]
  store := []

/-- Generator `g` is the one given, of unknown inside. -/
def unkIs (g : GenId) (c : ContractGen) (s : State) : Bool := getGen g s == .unknown c

/-! ### Well-formedness: each check refuses an ill-formed term -/

theorem test_wf_ref : Params.ref.wf = true := by decide
theorem test_illFormed_seqDiv : ({ Params.ref with seqDiv := 0 } : Params).wf = false := by decide
theorem test_illFormed_k_zero : ({ Params.ref with k := 0 } : Params).wf = false := by decide
theorem test_illFormed_k_large : ({ Params.ref with k := 2 ^ 32 + 1 } : Params).wf = false := by decide
theorem test_illFormed_addrBits : ({ Params.ref with addrBits := 0, win := ⟨0, 0⟩ } : Params).wf = false := by decide
theorem test_illFormed_clkStep : ({ Params.ref with clkStep := 0 } : Params).wf = false := by decide
theorem test_illFormed_window_order : ({ Params.ref with win := ⟨0xFF40, 0xFF3F⟩ } : Params).wf = false := by decide
theorem test_illFormed_window_size : ({ Params.ref with addrBits := 15 } : Params).wf = false := by decide
theorem test_illFormed_range_order : ({ Params.ref with rngG1 := ⟨0xFF14, 0xFF10⟩ } : Params).wf = false := by decide
theorem test_illFormed_range_low : ({ Params.ref with rngG1 := ⟨0xFF0F, 0xFF14⟩ } : Params).wf = false := by decide
theorem test_illFormed_range_high : ({ Params.ref with rngW := ⟨0xFF31, 0xFF40⟩ } : Params).wf = false := by decide
theorem test_illFormed_overlap : ({ Params.ref with rngG2 := ⟨0xFF14, 0xFF19⟩ } : Params).wf = false := by decide
theorem test_illFormed_master_size : ({ Params.ref with rngM := ⟨0xFF24, 0xFF27⟩ } : Params).wf = false := by decide
theorem test_illFormed_waveInit : ({ Params.ref with waveInit := [] } : Params).wf = false := by decide
theorem test_illFormed_volScale_product : ({ Params.ref with genSampleMax := 1171 } : Params).wf = false := by decide
theorem test_illFormed_volScale_table_rows :
    ({ Params.ref with genSampleMax := 0, volScale := .table [] } : Params).wf = false := by decide
theorem test_illFormed_volScale_table_row :
    ({ Params.ref with genSampleMax := 0, volScale := .table [[0]] } : Params).wf = false := by decide
theorem test_illFormed_volScale_table_value :
    ({ Params.ref with genSampleMax := 0, volScale := .table [[0, 0, 0, 0, 0, 0, 0, 32768]] } : Params).wf = false := by decide
theorem test_illFormed_centerScale_identity :
    ({ Params.ref with genSampleMax := 8192, volScale := .table [] } : Params).wf = false := by decide
theorem test_illFormed_centerScale_table_length :
    ({ Params.ref with genSampleMax := 0, centerScale := .table [] } : Params).wf = false := by decide
theorem test_illFormed_centerScale_table_value :
    ({ Params.ref with genSampleMax := 0, centerScale := .table [-32769] } : Params).wf = false := by decide
theorem test_illFormed_centerScale_alone :
    ({ Params.ref with genSampleMax := 8192 } : Params).centerScaleWf = false := by decide
theorem test_wf_volScale_product_edge :
    ({ Params.ref with genSampleMax := 1170 } : Params).volScaleWf = true := by decide
theorem test_wf_tables :
    ({ Params.ref with genSampleMax := 0, volScale := .table [[0, 1, 2, 3, 4, 5, 6, 7]], centerScale := .table [5] } : Params).wf = true := by decide
theorem test_illFormed_generator :
    step { lab with par := { Params.ref with genSampleMax := 14 } } = .refused .illFormedParameters := rfl
theorem test_illFormed_offset : Instr.wf { Params.ref with rngG1 := ⟨0xFF10, 0xFF13⟩ } .rdG14 = false := by decide
theorem test_illFormed_offset_write :
    Instr.wf { Params.ref with rngG4 := ⟨0xFF1F, 0xFF1F⟩ } (.wrG41 0) = false := by decide
theorem test_illFormed_fill27 : Instr.wf { Params.ref with rngW := ⟨0xFF27, 0xFF36⟩ } .rdFill27 = false := by decide
theorem test_illFormed_fill28 :
    Instr.wf Params.ref (.wrFill28 0xFF27 0) = false ∧ Instr.wf Params.ref (.rdFill28 0xFF24) = false := by decide
theorem test_illFormed_storage :
    Instr.wf Params.ref (.rdW 16) = false ∧ Instr.wf Params.ref (.wrW 15 0) = true := by decide

/-! ### Decoding: a word written out for every constructor (R71, R80: op, address, datum; R75 to R77: phase) -/

theorem test_decode_clkLen : Instr.clkLen ∈ decodeEvt 0b000#3 ∧ Instr.clkLen ∉ decodeEvt 0b001#3 := by decide
theorem test_decode_clkSwp : Instr.clkSwp ∈ decodeEvt 0b110#3 ∧ Instr.clkSwp ∉ decodeEvt 0b100#3 := by decide
theorem test_decode_clkEnv : decodeEvt 0b111#3 = [.clkEnv] ∧ decodeEvt 0b011#3 = [] := by decide
/-- `SEQ`, `RUN`, `MIX`, `HPF`, `EMIT` have no word of their own; their rows' word is that of `CYCLE` (R81). -/
theorem test_decode_cycle : decode Params.ref 0x0000000 = .ok (.instr .cycle) := rfl
theorem test_decode_cycle_ignored_fields : decode Params.ref 0x0ABCDEF = .ok (.instr .cycle) := rfl
theorem test_decode_reset : decode Params.ref 0x1000000 = .ok (.instr .reset) := rfl
theorem test_decode_too_long : decode Params.ref 0x4000000 = .error .notACommandWord := rfl
theorem test_decode_G10 :
    decode Params.ref 0x2FF1000 = .ok (.instr .rdG10) ∧ decode Params.ref 0x3FF1048 = .ok (.instr (.wrG10 0x48)) := ⟨rfl, rfl⟩
theorem test_decode_G11 :
    decode Params.ref 0x2FF1100 = .ok (.instr .rdG11) ∧ decode Params.ref 0x3FF1149 = .ok (.instr (.wrG11 0x49)) := ⟨rfl, rfl⟩
theorem test_decode_G12 :
    decode Params.ref 0x2FF1200 = .ok (.instr .rdG12) ∧ decode Params.ref 0x3FF124A = .ok (.instr (.wrG12 0x4A)) := ⟨rfl, rfl⟩
theorem test_decode_G13 :
    decode Params.ref 0x2FF1300 = .ok (.instr .rdG13) ∧ decode Params.ref 0x3FF134B = .ok (.instr (.wrG13 0x4B)) := ⟨rfl, rfl⟩
theorem test_decode_G14 :
    decode Params.ref 0x2FF1400 = .ok (.instr .rdG14) ∧ decode Params.ref 0x3FF144C = .ok (.instr (.wrG14 0x4C)) := ⟨rfl, rfl⟩
theorem test_decode_G20 :
    decode Params.ref 0x2FF1500 = .ok (.instr .rdG20) ∧ decode Params.ref 0x3FF1550 = .ok (.instr (.wrG20 0x50)) := ⟨rfl, rfl⟩
theorem test_decode_G21 :
    decode Params.ref 0x2FF1600 = .ok (.instr .rdG21) ∧ decode Params.ref 0x3FF1651 = .ok (.instr (.wrG21 0x51)) := ⟨rfl, rfl⟩
theorem test_decode_G22 :
    decode Params.ref 0x2FF1700 = .ok (.instr .rdG22) ∧ decode Params.ref 0x3FF1752 = .ok (.instr (.wrG22 0x52)) := ⟨rfl, rfl⟩
theorem test_decode_G23 :
    decode Params.ref 0x2FF1800 = .ok (.instr .rdG23) ∧ decode Params.ref 0x3FF1853 = .ok (.instr (.wrG23 0x53)) := ⟨rfl, rfl⟩
theorem test_decode_G24 :
    decode Params.ref 0x2FF1900 = .ok (.instr .rdG24) ∧ decode Params.ref 0x3FF1954 = .ok (.instr (.wrG24 0x54)) := ⟨rfl, rfl⟩
theorem test_decode_G30 :
    decode Params.ref 0x2FF1A00 = .ok (.instr .rdG30) ∧ decode Params.ref 0x3FF1A58 = .ok (.instr (.wrG30 0x58)) := ⟨rfl, rfl⟩
theorem test_decode_G31 :
    decode Params.ref 0x2FF1B00 = .ok (.instr .rdG31) ∧ decode Params.ref 0x3FF1B59 = .ok (.instr (.wrG31 0x59)) := ⟨rfl, rfl⟩
theorem test_decode_G32 :
    decode Params.ref 0x2FF1C00 = .ok (.instr .rdG32) ∧ decode Params.ref 0x3FF1C5A = .ok (.instr (.wrG32 0x5A)) := ⟨rfl, rfl⟩
theorem test_decode_G33 :
    decode Params.ref 0x2FF1D00 = .ok (.instr .rdG33) ∧ decode Params.ref 0x3FF1D5B = .ok (.instr (.wrG33 0x5B)) := ⟨rfl, rfl⟩
theorem test_decode_G34 :
    decode Params.ref 0x2FF1E00 = .ok (.instr .rdG34) ∧ decode Params.ref 0x3FF1E5C = .ok (.instr (.wrG34 0x5C)) := ⟨rfl, rfl⟩
theorem test_decode_G40 :
    decode Params.ref 0x2FF1F00 = .ok (.instr .rdG40) ∧ decode Params.ref 0x3FF1F60 = .ok (.instr (.wrG40 0x60)) := ⟨rfl, rfl⟩
theorem test_decode_G41 :
    decode Params.ref 0x2FF2000 = .ok (.instr .rdG41) ∧ decode Params.ref 0x3FF2061 = .ok (.instr (.wrG41 0x61)) := ⟨rfl, rfl⟩
theorem test_decode_G42 :
    decode Params.ref 0x2FF2100 = .ok (.instr .rdG42) ∧ decode Params.ref 0x3FF2162 = .ok (.instr (.wrG42 0x62)) := ⟨rfl, rfl⟩
theorem test_decode_G43 :
    decode Params.ref 0x2FF2200 = .ok (.instr .rdG43) ∧ decode Params.ref 0x3FF2263 = .ok (.instr (.wrG43 0x63)) := ⟨rfl, rfl⟩
theorem test_decode_G44 :
    decode Params.ref 0x2FF2300 = .ok (.instr .rdG44) ∧ decode Params.ref 0x3FF2364 = .ok (.instr (.wrG44 0x64)) := ⟨rfl, rfl⟩
theorem test_decode_Mvol :
    decode Params.ref 0x2FF2400 = .ok (.instr .rdMvol) ∧ decode Params.ref 0x3FF2485 = .ok (.instr (.wrMvol 0x85)) := ⟨rfl, rfl⟩
theorem test_decode_Mroute :
    decode Params.ref 0x2FF2500 = .ok (.instr .rdMroute) ∧ decode Params.ref 0x3FF2585 = .ok (.instr (.wrMroute 0x85)) := ⟨rfl, rfl⟩
theorem test_decode_Mctrl :
    decode Params.ref 0x2FF2600 = .ok (.instr .rdMctrl) ∧ decode Params.ref 0x3FF2685 = .ok (.instr (.wrMctrl 0x85)) := ⟨rfl, rfl⟩
theorem test_decode_Fill27 :
    decode Params.ref 0x2FF2700 = .ok (.instr .rdFill27) ∧ decode Params.ref 0x3FF2785 = .ok (.instr (.wrFill27 0x85)) := ⟨rfl, rfl⟩
theorem test_decode_Fill28 :
    decode Params.ref 0x2FF2800 = .ok (.instr (.rdFill28 0xFF28)) ∧ decode Params.ref 0x3FF2F85 = .ok (.instr (.wrFill28 0xFF2F 0x85)) := ⟨rfl, rfl⟩
theorem test_decode_W :
    decode Params.ref 0x2FF3000 = .ok (.instr (.rdW 0)) ∧ decode Params.ref 0x3FF3F85 = .ok (.instr (.wrW 15 0x85)) := ⟨rfl, rfl⟩
theorem test_encode :
    encode Params.ref (.wrG14 0xC0) = some 0x3FF14C0 ∧ encode Params.ref (.rdW 15) = some 0x2FF3F00
      ∧ encode Params.ref .reset = some 0x1000000 ∧ encode Params.ref .seq = none := by decide
/-- Vector A1: every boundary of the REF map. -/
theorem test_route_boundaries :
    [0x0000, 0xFF0F, 0xFF10, 0xFF14, 0xFF15, 0xFF19, 0xFF1A, 0xFF1E, 0xFF1F, 0xFF23, 0xFF24, 0xFF25, 0xFF26, 0xFF27, 0xFF2F,
        0xFF30, 0xFF3F, 0xFF40, 0xFFFF].map (route Params.ref)
      = [.notSelected, .notSelected, .gen .g1 0, .gen .g1 4, .gen .g2 0, .gen .g2 4, .gen .g3 0, .gen .g3 4, .gen .g4 0, .gen .g4 4,
        .mvol, .mroute, .mctrl, .fill, .fill, .storage 0, .storage 15, .notSelected, .notSelected] := by decide
theorem test_tableWords :
    [(8, 0), (8, 2), (8, 7), (8, 1), (32, 0x1000000), (32, 0x2FF2400)].map (fun x => decodeTableWord x.1 x.2)
      = [some .clkLen, some .clkSwp, some .clkEnv, none, some .reset, some .rdMvol] := by decide
theorem test_fetch_event :
    onNext (step (State.reset.withFetchWord 8 7)) (fun t => t.trace.take 1 == [⟨.g1, .clockEnvelope⟩] && t.phase == 0) = true := by decide
theorem test_fetch_command :
    onNext (step (State.reset.withFetchWord 32 0x3FF2680)) (fun t => t.menable && t.pending == []) = true := by decide

/-! ### One step of every instruction -/

/-- U3; R180 for generators of unknown inside: the last length clock disables, a disabled one ignores it. -/
theorem test_clkLen :
    onNext (exec .clkLen { lab with gen1 := .refGen { zeroGen with active := true, lenMode := true, len := 1 }, gen4 := .refGen { zeroGen with active := true, lenMode := true, len := 2 }, gen2 := .unknown { unk with ctl := { unk.ctl with len := 1 } }, gen3 := .unknown { unk with active := false } }) (fun t => genIs .g1 (fun r => r.len == 0 && !r.active) t && genIs .g4 (fun r => r.len == 1 && r.active) t
      && unkIs .g2 { unk with ctl := { unk.ctl with len := 0 }, active := false, wave := [.clockLength, .run], fresh := [] } t
      && unkIs .g3 { unk with active := false } t) = true := by decide
/-- U1. -/
theorem test_clkLen_no_lenMode :
    onNext (exec .clkLen { lab with gen1 := .refGen { zeroGen with active := true, len := 1 } }) (fun t => genIs .g1 (fun r => r.len == 0 && r.active) t) = true := by decide
/-- U7, first step. -/
theorem test_clkSwp :
    onNext (exec .clkSwp { lab with gen1 := .refGen { zeroGen with active := true, r0 := 0x11, freq := 1024, swCnt := 1 } }) (fun t => genIs .g1 (fun r => r.freq == 1536 && r.swCnt == 1 && r.active) t) = true := by decide
/-- U7, second step. -/
theorem test_clkSwp_overflow :
    onNext (exec .clkSwp { lab with gen1 := .refGen { zeroGen with active := true, r0 := 0x11, freq := 1536, swCnt := 1 } }) (fun t => genIs .g1 (fun r => r.freq == 1536 && r.swCnt == 1 && !r.active) t) = true := by decide
/-- U4; generator 3 has no envelope (R95). -/
theorem test_clkEnv :
    onNext (exec .clkEnv { lab with gen1 := .refGen { zeroGen with r2 := 0xD9, vol := 14, envCnt := 1 }, gen3 := .refGen { zeroGen with r2 := 0xD9, vol := 14, envCnt := 1 } }) (fun t => genIs .g1 (fun r => r.vol == 15 && r.envCnt == 1) t && genIs .g3 (fun r => r.vol == 14) t) = true := by decide
/-- U6, third call. -/
theorem test_clkEnv_period :
    onNext (exec .clkEnv { lab with gen4 := .refGen { zeroGen with r2 := 0x53, vol := 5, envCnt := 1 } }) (fun t => genIs .g4 (fun r => r.vol == 4 && r.envCnt == 3) t) = true := by decide
/-- T4, between ticks. -/
theorem test_seq_divides :
    onNext (exec .seq { lab with par := { Params.ref with seqDiv := 4 }, stage := 3, phase := 1 }) (fun t => t.stage == 0 && t.phase == 1 && t.trace == []) = true := by decide
/-- T1, cycle 6: length before sweep. -/
theorem test_seq_tick :
    onNext (exec .seq { lab with phase := 6 }) (fun t => t.stage == 1 && t.phase == 7
      && t.trace == [⟨.g1, .clockLength⟩, ⟨.g2, .clockLength⟩, ⟨.g3, .clockLength⟩, ⟨.g4, .clockLength⟩, ⟨.g1, .clockSweep⟩]) = true := by decide
/-- U12; R174 and R179 for a generator of unknown inside. -/
theorem test_run :
    onNext (exec .run { lab with gen3 := .refGen { zeroGen with active := true, vol := 9 }, gen4 := .refGen { zeroGen with vol := 9, smp := 9 }, gen2 := .unknown { unk with active := false } }) (fun t => genIs .g3 (fun r => r.smp == 9) t && genIs .g4 (fun r => r.smp == 0) t
      && unkIs .g2 { unk with active := false, smp := 0, wave := [.run, .run], fresh := [] } t
      && t.trace == [⟨.g1, .run⟩, ⟨.g2, .run⟩, ⟨.g3, .run⟩, ⟨.g4, .run⟩]) = true := by decide
/-- M1. -/
theorem test_mix :
    onNext (exec .mix { labSmp 15 3 0 8 with mroute := 0x1B, mvol := 0x25 }) (fun t => t.mixed == ⟨30, 130, 0⟩) = true := by decide
/-- M7 with M14. -/
theorem test_mix_center :
    onNext (exec .mix { labSmp 1 2 4 8 with par := { Params.ref with hasCenter := true }, mroute := 0x80, mvol := 0x10 }) (fun t => t.mixed == ⟨8, 0, 15⟩) = true := by decide
/-- F7 on the left, F4 (floor shift) on the right. -/
theorem test_hpf :
    onNext (exec .hpf { lab with biasL := 1099511627776, mixed := ⟨0, -1, 0⟩ }) (fun t => t.biasL == 1099496883968 && t.filtered.l == -255 && t.biasR == -57593 && t.filtered.r == 0) = true := by decide
/-- F9 and F10. -/
theorem test_hpf_saturates :
    onNext (exec .hpf { lab with biasL := -140737488355328, biasR := 140737488355328, mixed := ⟨32767, -32768, 0⟩ }) (fun t => t.biasL == -140733713998073 && t.filtered == ⟨32767, -32768, 0⟩ && t.biasR == 140733713940480) = true := by decide
/-- R212. -/
theorem test_emit :
    onNext (exec .emit { lab with filtered := ⟨7, -7, 3⟩, samples := [⟨1, 2, none⟩] }) (fun t => t.samples == [⟨1, 2, none⟩, ⟨7, -7, none⟩] && t.filtered == ⟨0, 0, 0⟩) = true := by decide
/-- M2 with F2, step 0, and the tick of T4. -/
theorem test_cycle :
    onNext (exec .cycle { labLoud with mroute := 0xFF, mvol := 0x77 }) (fun t => t.samples == [⟨420, 420, none⟩] && t.biasL == 24189060 && t.stage == 1 && t.phase == 1) = true := by decide
/-- R216; M9 with sample 15; no tick. -/
theorem test_cycle_gate_closed :
    onNext (exec .cycle { labLoud with menable := false, mroute := 0x10, mvol := 0x10, stage := 1 }) (fun t => t.samples == [⟨15, 0, none⟩] && t.phase == 0) = true := by decide
/-- R260. -/
theorem test_reset :
    onNext (exec .reset { labLoud with mvol := 0x77, biasL := 5, stage := 3, clock := -4, samples := [⟨1, 2, none⟩] }) (fun t => t.mvol == 0 && t.biasL == 0 && t.stage == 0 && t.clock == 0 && t.samples == [] && !t.menable && genIs .g1 (fun r => r.vol == 0) t) = true := by decide
theorem test_rdG10 :
    onNext (exec .rdG10 (labRegs .g1)) (fun t => t.readLog == [some 0x91] && t.trace == [⟨.g1, .read 0⟩]) = true := by decide
theorem test_rdG11 :
    onNext (exec .rdG11 (labRegs .g1)) (fun t => t.readLog == [some 0x92] && t.trace == [⟨.g1, .read 1⟩]) = true := by decide
theorem test_rdG12 :
    onNext (exec .rdG12 (labRegs .g1)) (fun t => t.readLog == [some 0x93] && t.trace == [⟨.g1, .read 2⟩]) = true := by decide
theorem test_rdG13 :
    onNext (exec .rdG13 (labRegs .g1)) (fun t => t.readLog == [some 0xAB] && t.trace == [⟨.g1, .read 3⟩]) = true := by decide
theorem test_rdG14 :
    onNext (exec .rdG14 (labRegs .g1)) (fun t => t.readLog == [some 0xFD] && t.trace == [⟨.g1, .read 4⟩]) = true := by decide
theorem test_rdG20 :
    onNext (exec .rdG20 (labRegs .g2)) (fun t => t.readLog == [some 0xFF] && t.trace == [⟨.g2, .read 0⟩]) = true := by decide
theorem test_rdG21 :
    onNext (exec .rdG21 (labRegs .g2)) (fun t => t.readLog == [some 0x92] && t.trace == [⟨.g2, .read 1⟩]) = true := by decide
theorem test_rdG22 :
    onNext (exec .rdG22 (labRegs .g2)) (fun t => t.readLog == [some 0x93] && t.trace == [⟨.g2, .read 2⟩]) = true := by decide
theorem test_rdG23 :
    onNext (exec .rdG23 (labRegs .g2)) (fun t => t.readLog == [some 0xAB] && t.trace == [⟨.g2, .read 3⟩]) = true := by decide
theorem test_rdG24 :
    onNext (exec .rdG24 (labRegs .g2)) (fun t => t.readLog == [some 0xFD] && t.trace == [⟨.g2, .read 4⟩]) = true := by decide
theorem test_rdG30 :
    onNext (exec .rdG30 (labRegs .g3)) (fun t => t.readLog == [some 0x91] && t.trace == [⟨.g3, .read 0⟩]) = true := by decide
theorem test_rdG31 :
    onNext (exec .rdG31 (labRegs .g3)) (fun t => t.readLog == [some 0x92] && t.trace == [⟨.g3, .read 1⟩]) = true := by decide
theorem test_rdG32 :
    onNext (exec .rdG32 (labRegs .g3)) (fun t => t.readLog == [some 0x93] && t.trace == [⟨.g3, .read 2⟩]) = true := by decide
theorem test_rdG33 :
    onNext (exec .rdG33 (labRegs .g3)) (fun t => t.readLog == [some 0xAB] && t.trace == [⟨.g3, .read 3⟩]) = true := by decide
theorem test_rdG34 :
    onNext (exec .rdG34 (labRegs .g3)) (fun t => t.readLog == [some 0xFD] && t.trace == [⟨.g3, .read 4⟩]) = true := by decide
theorem test_rdG40 :
    onNext (exec .rdG40 (labRegs .g4)) (fun t => t.readLog == [some 0x91] && t.trace == [⟨.g4, .read 0⟩]) = true := by decide
theorem test_rdG41 :
    onNext (exec .rdG41 (labRegs .g4)) (fun t => t.readLog == [some 0x92] && t.trace == [⟨.g4, .read 1⟩]) = true := by decide
theorem test_rdG42 :
    onNext (exec .rdG42 (labRegs .g4)) (fun t => t.readLog == [some 0x93] && t.trace == [⟨.g4, .read 2⟩]) = true := by decide
theorem test_rdG43 :
    onNext (exec .rdG43 (labRegs .g4)) (fun t => t.readLog == [some 0xAB] && t.trace == [⟨.g4, .read 3⟩]) = true := by decide
theorem test_rdG44 :
    onNext (exec .rdG44 (labRegs .g4)) (fun t => t.readLog == [some 0xFD] && t.trace == [⟨.g4, .read 4⟩]) = true := by decide
theorem test_wrG10 :
    onNext (exec (.wrG10 0xA5) (labRegs .g1)) (fun t => genIs .g1 (fun r => r.r0 == 0xA5) t) = true := by decide
theorem test_wrG11 :
    onNext (exec (.wrG11 0xA5) (labRegs .g1)) (fun t => genIs .g1 (fun r => r.r1 == 0xA5) t) = true := by decide
theorem test_wrG12 :
    onNext (exec (.wrG12 0xA5) (labRegs .g1)) (fun t => genIs .g1 (fun r => r.r2 == 0xA5) t) = true := by decide
theorem test_wrG13 :
    onNext (exec (.wrG13 0xA5) (labRegs .g1)) (fun t => genIs .g1 (fun r => r.freq == 0x5A5 && r.r3 == 0xA5) t) = true := by decide
theorem test_wrG14 :
    onNext (exec (.wrG14 0xA5) (labRegs .g1)) (fun t => genIs .g1 (fun r => !r.lenMode && r.freq == 0x5AB && r.len == 0x92 && r.vol == 9 && r.envCnt == 3 && r.active && r.swCnt == 1) t) = true := by decide
theorem test_wrG20 :
    onNext (exec (.wrG20 0xA5) (labRegs .g2)) (fun t => genIs .g2 (fun r => r.r0 == 0x91) t) = true := by decide
theorem test_wrG21 :
    onNext (exec (.wrG21 0xA5) (labRegs .g2)) (fun t => genIs .g2 (fun r => r.r1 == 0xA5) t) = true := by decide
theorem test_wrG22 :
    onNext (exec (.wrG22 0xA5) (labRegs .g2)) (fun t => genIs .g2 (fun r => r.r2 == 0xA5) t) = true := by decide
theorem test_wrG23 :
    onNext (exec (.wrG23 0xA5) (labRegs .g2)) (fun t => genIs .g2 (fun r => r.freq == 0x5A5 && r.r3 == 0xA5) t) = true := by decide
theorem test_wrG24 :
    onNext (exec (.wrG24 0xA5) (labRegs .g2)) (fun t => genIs .g2 (fun r => !r.lenMode && r.freq == 0x5AB && r.len == 0x92 && r.vol == 9 && r.envCnt == 3 && r.active && r.swCnt == 0) t) = true := by decide
theorem test_wrG30 :
    onNext (exec (.wrG30 0xA5) (labRegs .g3)) (fun t => genIs .g3 (fun r => r.r0 == 0xA5) t) = true := by decide
theorem test_wrG31 :
    onNext (exec (.wrG31 0xA5) (labRegs .g3)) (fun t => genIs .g3 (fun r => r.r1 == 0xA5) t) = true := by decide
theorem test_wrG32 :
    onNext (exec (.wrG32 0xA5) (labRegs .g3)) (fun t => genIs .g3 (fun r => r.r2 == 0xA5) t) = true := by decide
theorem test_wrG33 :
    onNext (exec (.wrG33 0xA5) (labRegs .g3)) (fun t => genIs .g3 (fun r => r.freq == 0x5A5 && r.r3 == 0xA5) t) = true := by decide
theorem test_wrG34 :
    onNext (exec (.wrG34 0xA5) (labRegs .g3)) (fun t => genIs .g3 (fun r => !r.lenMode && r.freq == 0x5AB && r.len == 0x92 && r.vol == 9 && r.envCnt == 3 && r.active && r.swCnt == 0) t) = true := by decide
theorem test_wrG40 :
    onNext (exec (.wrG40 0xA5) (labRegs .g4)) (fun t => genIs .g4 (fun r => r.r0 == 0xA5) t) = true := by decide
theorem test_wrG41 :
    onNext (exec (.wrG41 0xA5) (labRegs .g4)) (fun t => genIs .g4 (fun r => r.r1 == 0xA5) t) = true := by decide
theorem test_wrG42 :
    onNext (exec (.wrG42 0xA5) (labRegs .g4)) (fun t => genIs .g4 (fun r => r.r2 == 0xA5) t) = true := by decide
theorem test_wrG43 :
    onNext (exec (.wrG43 0xA5) (labRegs .g4)) (fun t => genIs .g4 (fun r => r.freq == 0x5A5 && r.r3 == 0xA5) t) = true := by decide
theorem test_wrG44 :
    onNext (exec (.wrG44 0xA5) (labRegs .g4)) (fun t => genIs .g4 (fun r => !r.lenMode && r.freq == 0x5AB && r.len == 0x92 && r.vol == 9 && r.envCnt == 3 && r.active && r.swCnt == 0) t) = true := by decide
/-- U12: a trigger cannot reactivate a generator whose enable register is off. -/
theorem test_wrG34_enable_off :
    onNext (exec (.wrG34 0x80) { lab with gen3 := .refGen { zeroGen with r2 := 0x90 } }) (fun t => genIs .g3 (fun r => !r.active && r.vol == 9) t) = true := by decide
/-- A5. -/
theorem test_wrG11_gate_closed :
    onNext (exec (.wrG11 0x55) { labRegs .g1 with menable := false }) (fun t => genIs .g1 (fun r => r.r1 == 0x92) t && t.trace == []) = true := by decide
/-- M5, R148: all eight bits. -/
theorem test_rdMvol :
    onNext (exec .rdMvol { lab with mvol := 0x88, mroute := 0x11 }) (fun t => t.readLog == [some 0x88]) = true := by decide
/-- A3. -/
theorem test_wrMvol : onNext (exec (.wrMvol 0xA5) lab) (fun t => t.mvol == 0xA5 && t.mroute == 0) = true := by decide
/-- A5. -/
theorem test_wrMvol_gate_closed :
    onNext (exec (.wrMvol 0x00) { lab with menable := false, mvol := 0x77 }) (fun t => t.mvol == 0x77) = true := by decide
theorem test_rdMroute :
    onNext (exec .rdMroute { lab with mvol := 0x88, mroute := 0x11 }) (fun t => t.readLog == [some 0x11]) = true := by decide
/-- A3. -/
theorem test_wrMroute :
    onNext (exec (.wrMroute 0xA5) lab) (fun t => t.mroute == 0xA5 && t.mvol == 0) = true := by decide
/-- A4, with the gate closed. -/
theorem test_rdMctrl :
    onNext (exec .rdMctrl { lab with menable := false }) (fun t => t.readLog == [some 0x7F]) = true := by decide
/-- A4. -/
theorem test_rdMctrl_enabled : onNext (exec .rdMctrl lab) (fun t => t.readLog == [some 0xFF]) = true := by decide
/-- A4. -/
theorem test_wrMctrl :
    onNext (exec (.wrMctrl 0x81) { lab with menable := false }) (fun t => t.menable) = true := by decide
/-- A4, A9. -/
theorem test_wrMctrl_off :
    onNext (exec (.wrMctrl 0x7F) { lab with mvol := 0x77 }) (fun t => !t.menable && t.mvol == 0x77) = true := by decide
/-- A6. -/
theorem test_rdFill27 :
    onNext (exec .rdFill27 lab) (fun t => t.readLog == [some 0xFF] && t.trace == []) = true := by decide
/-- A6. -/
theorem test_wrFill27 :
    onNext (exec (.wrFill27 0) lab) (fun t => t.mvol == 0 && t.trace == [] && t.readLog == []) = true := by decide
/-- A6. -/
theorem test_rdFill28 : onNext (exec (.rdFill28 0xFF2F) lab) (fun t => t.readLog == [some 0xFF]) = true := by decide
/-- A6. -/
theorem test_wrFill28 :
    onNext (exec (.wrFill28 0xFF28 1) lab) (fun t => t.menable && t.trace == []) = true := by decide
/-- R154. -/
theorem test_rdW :
    onNext (exec (.rdW 15) lab) (fun t => t.readLog == [some 0x12] && t.trace == [⟨.g3, .readStorage 15⟩]) = true := by decide
/-- U15. -/
theorem test_wrW :
    onNext (exec (.wrW 3 0xAB) lab) (fun t => genIs .g3 (fun r => r.store[3]? == some 0xAB && r.store[4]? == some 0x12) t) = true := by decide
/-- A5. -/
theorem test_wrW_gate_closed :
    onNext (exec (.wrW 0 0x99) { lab with menable := false }) (fun t => genIs .g3 (fun r => r.store[0]? == some 0x12) t) = true := by decide

/-! ### One move of the host -/

/-- H1, row 2. -/
theorem test_resume :
    onNext (step { lab with clock := -4, pending := [.resume] }) (fun t => t.samples.length == 4 && t.clock == 0 && t.exits == [.toCPU] && t.suspended) = true := by decide
/-- H2. -/
theorem test_resume_clkStep :
    onNext (step { lab with par := { Params.ref with clkStep := 3 }, clock := -10, pending := [.resume] }) (fun t => t.samples.length == 4 && t.clock == 2) = true := by decide
/-- H3, row 1. -/
theorem test_resume_forced :
    onNext (step { lab with sync := .all, pending := [.resume] }) (fun t => t.samples == [] && t.exits == [.syncEvent] && t.resumePt == .afterSyncCheck && t.clock == 0) = true := by decide
/-- H3, row 2. -/
theorem test_resume_forced_later :
    onNext (step { lab with sync := .all, resumePt := .afterSyncCheck, pending := [.resume] }) (fun t => t.samples.length == 1 && t.exits == [.syncEvent] && t.resumePt == .afterSyncCheck && t.clock == 1) = true := by decide
/-- H6. -/
theorem test_resume_running :
    step { lab with suspended := false, pending := [.resume] } = .fault (.hostInvariantViolation .resumeOfRunningContext) := rfl
/-- R241, R260: `RESET` after a host fault. -/
theorem test_reset_after_fault :
    onNext (step { lab with suspended := false, stage := 3, pending := [.resume, .cmd 0x1000000] }) (fun t => t.hostFault == some .resumeOfRunningContext && t.stage == 3
      && onNext (step t) (fun u => u.hostFault == none && u.stage == 0 && u.suspended && u.pending == [])) = true := by decide
/-- R241: no other later step is defined. -/
theorem test_move_after_fault :
    step { lab with hostFault := some .accessDuringCycle, pending := [.grant 1, .cmd 0x1000000] } = .fault (.hostInvariantViolation .accessDuringCycle) := rfl
/-- A7. -/
theorem test_notSelected :
    onNext (step { lab with pending := [.cmd 0x2FF4000] }) (fun t => t.readLog == [none] && t.trace == []) = true := by decide

/-! ### Witnesses: for each statement with hypotheses, data that meet them together -/

/-- The host's one next move. -/
def given (m : HostMove) : State := { lab with pending := [m] }

theorem lab_ok : paramsOk lab = true := by decide
theorem given_ok (m : HostMove) : paramsOk (given m) = true := lab_ok
theorem lab_refGen : ∀ g, ∃ r, getGen g lab = .refGen r := by intro g; cases g <;> exact ⟨_, rfl⟩

/-- `lab` meets the invariant. -/
theorem lab_inv : Inv lab where
  suspended := fun _ => rfl
  faulted := fun h => absurd rfl h
  stage := by decide
  biasL := by decide
  biasR := by decide
  biasC := by decide
  noCentre := fun _ => rfl
  mixed := rfl
  filtered := rfl
  samples := by intro x hx; cases hx
  gens := by
    intro g
    cases g
    · show RefGenInv _ _ _
      unfold RefGenInv; decide
    · show RefGenInv _ _ _
      unfold RefGenInv; decide
    · show RefGenInv _ _ _
      unfold RefGenInv; decide
    · show RefGenInv _ _ _
      unfold RefGenInv; decide

theorem witness_DecodeOfEncode :
    Params.ref.wf = true ∧ Instr.wf Params.ref (.wrG14 0xC0) = true ∧ encode Params.ref (.wrG14 0xC0) = some 0x3FF14C0 := by decide
theorem witness_DecodeOfEncode_edge :
    Instr.wf Params.ref (.wrFill28 0xFF2F 0xFF) = true ∧ Instr.wf Params.ref (.rdW 15) = true := by decide
theorem witness_DecodedFieldsAreTheWordsFields :
    Params.ref.wf = true ∧ decode Params.ref 0x0ABCDEF = .ok (.instr .cycle) ∧ decode Params.ref 0x1000001 = .ok (.instr .reset)
      ∧ decode Params.ref 0x2FF1001 = .ok (.instr .rdG10) ∧ decode Params.ref 0x3FF3FFF = .ok (.instr (.wrW 15 0xFF)) := ⟨by decide, rfl, rfl, rfl, rfl⟩
theorem witness_EveryCommandWordDecodes :
    0x3FFFFFF < 2 ^ cmdBits Params.ref ∧ 2 ^ cmdBits Params.ref ≤ 0x4000000
      ∧ [0x0FFFFFF, 0x1000000, 0x2FFFFFF, 0x3FFFFFF].map (cmdOp Params.ref) = [0, 1, 2, 3] := by decide
theorem witness_RouteFollowsTheMap :
    Params.ref.wf = true ∧ inRange (genRange Params.ref .g4) 0xFF23 = true ∧ inRange Params.ref.rngW 0xFF3F = true
      ∧ 0xFF0F < Params.ref.win.lo ∧ Params.ref.win.hi < 0xFF40 ∧ inRange Params.ref.win 0xFF2F = true
      ∧ ∀ r ∈ Params.ref.ranges, inRange r 0xFF2F = false := by decide
theorem witness_ParametersAcceptedAreTheRules :
    Params.ref.wf = true ∧ ({ Params.ref with hasCenter := true, seqDiv := 1, k := 2 ^ 32 } : Params).wf = true := by decide
theorem witness_StepRunsTheDecodedInstruction :
    paramsOk (given (.cmd 0x3FF14C0)) = true ∧ (given (.cmd 0x3FF14C0)).pending = .cmd 0x3FF14C0 :: []
      ∧ decode (given (.cmd 0x3FF14C0)).par 0x3FF14C0 = .ok (.instr (.wrG14 0xC0))
      ∧ ((Instr.wrG14 0xC0).isAccess = true → (given (.cmd 0x3FF14C0)).suspended = true)
      ∧ (given (.cmd 0x3FF14C0)).hostFault = none := ⟨given_ok _, rfl, rfl, fun _ => rfl, rfl⟩
theorem witness_StepIdlesOrRefuses :
    paramsOk lab = true ∧ lab.pending = [] ∧ paramsOk { lab with par := { Params.ref with seqDiv := 0 } } = false
      ∧ lab.hostFault = none := by decide
theorem witness_AccessOutsideTheWindow :
    paramsOk lab = true ∧ lab.suspended = true ∧ 0xFF0F < 2 ^ lab.par.addrBits ∧ 0xFF40 < 2 ^ lab.par.addrBits
      ∧ 0xFF0F < lab.par.win.lo ∧ lab.par.win.hi < 0xFF40
      ∧ (given (.cmd (encodeCmd lab.par (.rd 0xFF0F)))).pending = .cmd (encodeCmd lab.par (.rd 0xFF0F)) :: []
      ∧ (given (.cmd (encodeCmd lab.par (.wr 0xFF40 0xAA)))).pending = .cmd (encodeCmd lab.par (.wr 0xFF40 0xAA)) :: []
      ∧ lab.hostFault = none := by decide
theorem witness_BusReadReturnsTheByte :
    paramsOk (given (.cmd 0x2FF1400)) = true ∧ (given (.cmd 0x2FF1400)).suspended = true
      ∧ (given (.cmd 0x2FF1400)).pending = .cmd (encodeCmd (given (.cmd 0x2FF1400)).par (.rd 0xFF14)) :: []
      ∧ onNext (step (given (.cmd 0x2FF1400))) (fun t => t.readLog == [some 0xB8]) = true
      ∧ (given (.cmd 0x2FF1400)).hostFault = none := ⟨given_ok _, rfl, rfl, by decide, rfl⟩
theorem witness_ClosedGateDiscardsEveryWrite :
    paramsOk { lab with menable := false } = true ∧ ({ lab with menable := false } : State).suspended = true
      ∧ 0xFF24 ≠ addrMctrl lab.par ∧ 0xFF26 = addrMctrl lab.par
      ∧ 0x3FF2400 = encodeCmd lab.par (.wr 0xFF24 0) ∧ 0x3FF2680 = encodeCmd lab.par (.wr 0xFF26 0x80)
      ∧ ({ lab with menable := false } : State).hostFault = none := by decide
theorem witness_OpenGateWriteActsOnItsRegion :
    paramsOk lab = true ∧ lab.suspended = true ∧ lab.menable = true ∧ route lab.par 0xFF23 = .gen .g4 4 ∧ route lab.par 0xFF24 = .mvol
      ∧ route lab.par 0xFF25 = .mroute ∧ route lab.par 0xFF3F = .storage 15 ∧ route lab.par 0xFF27 = .fill
      ∧ route lab.par 0xFFFF = .notSelected ∧ 0x3FF2385 = encodeCmd lab.par (.wr 0xFF23 0x85)
      ∧ lab.hostFault = none := by decide
theorem witness_WriteReachesOnlyItsAddress :
    paramsOk (given (.cmd 0x3FF14C0)) = true ∧ (∀ g, ∃ r, getGen g (given (.cmd 0x3FF14C0)) = .refGen r)
      ∧ 0x3FF14C0 = encodeCmd lab.par (.wr 0xFF14 0xC0) ∧ onNext (step (given (.cmd 0x3FF14C0))) (fun _ => true) = true
      ∧ 0xFF13 ≠ 0xFF14
      ∧ (given (.cmd 0x3FF14C0)).hostFault = none := ⟨given_ok _, lab_refGen, by decide, by decide, by decide, rfl⟩
theorem witness_SeqDividesAndDispatches : lab.stage = 0 ∧ ({ lab with stage := 4095 } : State).stage ≠ 0 := by decide
theorem witness_SequencerSchedule : lab.stage = 0 ∧ lab.phase = 0 ∧ 1 ≤ lab.par.seqDiv := by decide
theorem witness_MixIgnoresGateAndSpareBits :
    (0xFF : Byte) &&& 0x77 = ({ lab with mvol := 0x77 } : State).mvol &&& 0x77 := by decide
theorem witness_MixStaysInSixteenBits :
    paramsOk { labSmp 15 15 15 15 with mroute := 0xFF, mvol := 0x77 } = true := by decide
theorem witness_AccumulatorStaysBounded :
    0 < Params.ref.k ∧ Params.ref.k ≤ 2 ^ (2 * Params.ref.shiftA) ∧ |(-140737488355328 : Int)| ≤ biasBound Params.ref
      ∧ InInt16 32767 ∧ InInt16 (-32768) ∧ Params.ref.k < 2 ^ Params.ref.shiftA
      ∧ ∀ x ∈ ([32767, -32768] : List Int), InInt16 x := by decide
theorem witness_FiniteWidthFilterAgrees :
    0 < Params.ref.k ∧ Params.ref.k < 2 ^ Params.ref.shiftA ∧ 17 + 2 * Params.ref.shiftA ≤ 49
      ∧ |(140737488355328 : Int)| ≤ biasBound Params.ref ∧ InInt16 (-32768) := by decide
theorem witness_ZeroInputStaysZero :
    lab.biasL = 0 ∧ lab.biasR = 0 ∧ lab.biasC = 0 ∧ lab.mixed = ⟨0, 0, 0⟩ := by decide
theorem witness_AccumulatorMovesTowardTheInput :
    0 < Params.ref.k ∧ Params.ref.k ≤ 2 ^ (2 * Params.ref.shiftA) ∧ 0 ≤ hpfDiff Params.ref 0 420 ∧ hpfDiff Params.ref 0 (-420) ≤ 0 := by decide
theorem witness_OnePairPerCycleInOrder : (⟨420, -420, none⟩ : Sample) ∈ [(⟨420, -420, none⟩ : Sample)] := by decide
theorem witness_CycleFrame :
    lab.par.hasCenter = false ∧ ({ lab with par := { Params.ref with hasCenter := true } } : State).par.hasCenter = true := by decide
theorem witness_GeneratorWrites :
    lab.menable = true ∧ ({ lab with menable := false } : State).menable = false := by decide
theorem witness_MasterRegisterWrites : lab.menable = true ∧ State.reset.menable = false := by decide
theorem witness_StorageAccesses : lab.menable = true ∧ State.reset.menable = false := by decide
theorem witness_StorageReturnsWhatWasWritten :
    Inv lab ∧ lab.menable = true ∧ 15 < rangeSize lab.par.rngW ∧ 14 ≠ 15 := ⟨lab_inv, rfl, by decide, by decide⟩
theorem witness_WhoMayWriteWhat :
    (∃ t, exec (.wrMvol 5) lab = .next t) ∧ Instr.wrMvol 5 ∉ [Instr.cycle, .seq, .reset]
      ∧ Instr.wrMvol 5 ∉ [Instr.cycle, .hpf, .reset] ∧ (∀ d, Instr.wrMvol 5 ≠ .wrMctrl d) ∧ (∀ d, Instr.wrMvol 5 ≠ .wrMroute d)
      ∧ (∀ d, Instr.seq ≠ .wrMvol d) ∧ Instr.wrMvol 5 ∉ [Instr.cycle, .emit, .reset] ∧ Instr.wrMvol 5 ≠ .reset := ⟨⟨_, rfl⟩, by decide, by decide, by simp, by simp, by simp, by decide, by decide⟩
theorem witness_ResetGivesTheResetState :
    labLoud.par = Params.ref ∧ ∀ g, ∃ r, getGen g labLoud = .refGen r := ⟨rfl, by intro g; cases g <;> exact ⟨_, rfl⟩⟩
theorem witness_EveryStepKeepsTheInvariant :
    Inv (given (.cmd 0)) ∧ onNext (step (given (.cmd 0))) (fun _ => true) = true := ⟨{ lab_inv with }, by decide⟩
theorem witness_EveryStepKeepsTheInvariant_unknown :
    Inv { lab with gen4 := .unknown unk } := by
  refine { lab_inv with gens := ?_ }
  intro g
  cases g
  · exact lab_inv.gens .g1
  · exact lab_inv.gens .g2
  · exact lab_inv.gens .g3
  · show ContractInv _ _ _
    unfold ContractInv; decide
theorem witness_LengthCounterSilencesOnTime :
    (let r : RefGen := { zeroGen with active := true, lenMode := true, len := 255 };
      getGen .g4 { lab with gen4 := .refGen r } = .refGen r ∧ r.active = true ∧ r.lenMode = true ∧ 1 ≤ r.len.toNat
        ∧ ({ r with len := 0 } : RefGen).len = 0 ∧ ({ r with lenMode := false } : RefGen).lenMode = false ∧ zeroGen.active = false) := ⟨rfl, by decide, by decide, by decide, rfl, rfl, rfl⟩
theorem witness_LengthCounterSilencesOnTime_unknown :
    getGen .g4 { lab with gen4 := .unknown unk } = .unknown unk ∧ unk.active = true ∧ unk.ctl.lenMode = true ∧ 1 ≤ unk.ctl.len
      ∧ ({ unk with active := false } : ContractGen).active = false
      ∧ ({ unk.ctl with lenMode := false } : GenControl).lenMode = false ∧ 2 ≤ unk.ctl.len := ⟨rfl, rfl, rfl, by decide, rfl, rfl, by decide⟩
theorem witness_EnvelopeMovesOneWayAndClamps :
    (let r : RefGen := { zeroGen with r2 := 0xD9, vol := 13 };
      GenId.g4 ≠ .g3 ∧ getGen .g4 { lab with gen4 := .refGen r } = .refGen r ∧ r.r2.getLsbD 3 = true
        ∧ zeroGen.r2.getLsbD 3 = false ∧ zeroGen.r2.extractLsb' 0 3 = 0) := ⟨by decide, rfl, by decide, by decide, by decide⟩
theorem witness_EnvelopeMovesOneWayAndClamps_unknown :
    getGen .g4 { lab with gen4 := .unknown unk } = .unknown unk ∧ unk.ctl.envUp = true ∧ zeroControl.envUp = false := ⟨rfl, rfl, rfl⟩
theorem witness_EnvelopeStepsAtItsPeriod :
    (let r : RefGen := { zeroGen with r2 := 0x53, vol := 5, envCnt := 3 };
      GenId.g4 ≠ .g3 ∧ getGen .g4 { lab with gen4 := .refGen r } = .refGen r ∧ r.r2.extractLsb' 0 3 ≠ 0
        ∧ r.envCnt = r.r2.extractLsb' 0 3 ∧ 2 < r.envCnt.toNat ∧ 3 = r.envCnt.toNat) := ⟨by decide, rfl, by decide, by decide, by decide, by decide⟩
theorem witness_SweepStepOrDisable :
    (let r : RefGen := { zeroGen with active := true, r0 := 0x21, freq := 1023, swCnt := 2 };
      ({ lab with gen1 := .refGen r } : State).gen1 = .refGen r ∧ r.active = true ∧ r.r0.extractLsb' 4 3 ≠ 0
        ∧ 1 < r.swCnt.toNat ∧ zeroGen.swCnt.toNat ≤ 1 ∧ r.r0.getLsbD 3 = false ∧ (0x1A : Byte).getLsbD 3 = true
        ∧ 1023 + 511 ≤ lab.par.freqMax ∧ 1023 + 511 ≤ 2047 ∧ lab.par.freqMax < 1536 + 768) := ⟨rfl, by decide, by decide, by decide, by decide, by decide, by decide, by decide, by decide, by decide⟩
theorem witness_SweepStepOrDisable_unknown : ({ lab with gen1 := .unknown unk } : State).gen1 = .unknown unk := rfl
theorem witness_TriggerReloadsTheCounters :
    lab.menable = true ∧ (0xC0 : Byte).getLsbD 7 = true ∧ ∃ r, getGen .g3 lab = .refGen r := ⟨rfl, by decide, _, rfl⟩
theorem witness_TriggerReloadsTheCounters_unknown :
    (∃ (off : Nat) (d : Byte), off = (Config.genTrigger Params.ref .g3).1 ∧ d.getLsbD (Config.genTrigger Params.ref .g3).2.val = true)
      ∧ (0 : Byte).getLsbD (Config.genTrigger Params.ref .g3).2.val = false ∧ (Config.genTrigger Params.ref .g3).1 + 1 ≠ (Config.genTrigger Params.ref .g3).1
      ∧ ({ unk with active := false } : ContractGen).active = false ∧ (contractWrite Params.ref .g3 (Config.genEnableOffset Params.ref .g3 + 1) 0 { unk with dac := false }).dac = false := by
  have bit : ∀ k : Fin 8, (0xFF : Byte).getLsbD k.val = true := by decide
  exact ⟨⟨_, 0xFF, rfl, bit _⟩, by simp, by simp, rfl, by simp [contractWrite, dacAfter]⟩
theorem witness_DisabledGeneratorIsSilent :
    getGen .g1 lab = .refGen zeroGen ∧ getGen .g2 { lab with gen2 := .unknown { unk with active := false } } = .unknown { unk with active := false }
      ∧ ({ unk with active := false } : ContractGen).active = false := ⟨rfl, rfl, rfl⟩
theorem witness_RefGenRegistersRoundTrip :
    (∀ g, ∃ r, getGen g lab = .refGen r) ∧ getGen .g4 { lab with gen4 := .unknown unk } = .unknown unk ∧ 4 < unk.regs.length := ⟨lab_refGen, rfl, by decide⟩
theorem witness_ResumeRunsUntilCaughtUp :
    paramsOk { given .resume with clock := -4 } = true ∧ (given .resume).suspended = true ∧ (given .resume).sync = .normal
      ∧ (given .resume).pending = .resume :: [] ∧ resumeCycles 1 (-4) = 4 ∧ resumeCycles 1 0 = 1 ∧ resumeCycles 3 (-10) = 4
      ∧ ({ given .resume with clock := -4 } : State).hostFault = none := ⟨lab_ok, rfl, rfl, rfl, by decide, by decide, by decide, rfl⟩
theorem witness_ResumeUnderForcedSync :
    (let s : State := { given .resume with sync := .all };
      paramsOk s = true ∧ s.suspended = true ∧ s.sync = .all ∧ s.pending = .resume :: [] ∧ s.resumePt = .atTop
        ∧ ({ s with resumePt := .afterSyncCheck } : State).resumePt = .afterSyncCheck
        ∧ s.hostFault = none) := ⟨lab_ok, rfl, rfl, rfl, rfl, rfl, rfl⟩
theorem witness_GrantAndSyncMoves :
    paramsOk (given (.grant 5)) = true ∧ (given (.grant 5)).suspended = true ∧ (given (.grant 5)).pending = .grant 5 :: []
      ∧ (given (.sync .all)).pending = .sync .all :: []
      ∧ (given (.grant 5)).hostFault = none := ⟨given_ok _, rfl, rfl, rfl, rfl⟩
theorem witness_MovesInsideACycleFault :
    paramsOk { given .resume with suspended := false } = true ∧ (given (.intrude .resume)).pending = .intrude .resume :: []
      ∧ (given (.intrude (.wr 0xFF24 1))).pending = .intrude (.wr 0xFF24 1) :: []
      ∧ ({ given .resume with suspended := false } : State).hostFault = none := ⟨lab_ok, rfl, rfl, rfl⟩
theorem witness_MovesInsideACycleFault_reset :
    (let s : State := { lab with hostFault := some .accessDuringCycle, pending := [.cmd 0x1000000] };
      paramsOk s = true ∧ s.hostFault = some .accessDuringCycle ∧ s.pending = .cmd 0x1000000 :: [] ∧ decode s.par 0x1000000 = .ok (.instr .reset)
        ∧ resetNext { s with pending := [.cmd 0] } = false ∧ resetNext { s with pending := [] } = false) := ⟨lab_ok, rfl, rfl, rfl, rfl, rfl⟩
theorem witness_EveryStepKeepsTheInvariant_faulted :
    Inv { lab with suspended := false, hostFault := some .accessDuringCycle, pending := [.cmd 0x1000000] } := { lab_inv with suspended := nofun, faulted := fun _ => rfl }
theorem witness_LawfulHostNeverStops :
    paramsOk (given (.cmd 0x3FFFFFF)) = true ∧ (given (.cmd 0x3FFFFFF)).suspended = true ∧ (given (.cmd 0x3FFFFFF)).hostFault = none
      ∧ ∀ m ∈ (given (.cmd 0x3FFFFFF)).pending.head?, m.lawful (given (.cmd 0x3FFFFFF)).par := ⟨given_ok _, rfl, rfl, by
    intro m hm
    simp only [given, List.head?_cons, Option.mem_def, Option.some.injEq] at hm
    subst hm
    show 0x3FFFFFF < 2 ^ cmdBits lab.par
    decide⟩

end Sys2Proof.Tests
end

/-! PROOFS. The Boolean check `Params.wf` against the rules it stands for: the map of R8, the scales of R116, and the
whole of R7's table. -/

namespace Sys2Proof

open Machine

/-- For nonempty ranges the test on the bounds says that no address is in both (R8). An empty range
shares no address with a range around it and yet fails the test: hence the hypotheses. -/
theorem disjoint_iff_no_common_address {r s : Range} (hr : r.lo ≤ r.hi) (hs : s.lo ≤ s.hi) :
    r.disjoint s = true ↔ ∀ a : Nat, ¬(inRange r a = true ∧ inRange s a = true) := by
  simp only [disjoint_iff, inRange_iff]
  constructor
  · intro apart a
    omega
  · intro noCommon
    have := noCommon (max r.lo s.lo)
    omega

/-- The map check is R8: a window of the address space, the sub-ranges in it, and no address in two of them. -/
theorem Params.mapWf_iff (p : Params) :
    p.mapWf = true ↔ (p.win.lo ≤ p.win.hi ∧ p.win.hi < 2 ^ p.addrBits)
      ∧ (∀ r ∈ p.ranges, r.lo ≤ r.hi ∧ p.win.lo ≤ r.lo ∧ r.hi ≤ p.win.hi)
      ∧ p.ranges.Pairwise (fun r s => ∀ a : Nat, ¬(inRange r a = true ∧ inRange s a = true)) := by
  simp only [Params.mapWf, Bool.and_eq_true, decide_eq_true_eq, List.all_eq_true, and_assoc]
  refine and_congr_right fun _ => and_congr_right fun _ => and_congr_right fun inside => ?_
  exact List.Pairwise.iff_of_mem fun hr hs => disjoint_iff_no_common_address (inside _ hr).1 (inside _ hs).1

/-- `RNG_M` has three addresses exactly if its last is the first plus two. -/
theorem rangeSize_eq_three_iff (r : Range) : rangeSize r = 3 ↔ r.hi = r.lo + 2 := by
  simp only [rangeSize]
  omega

/-- The largest product is that of the largest sum and the volume 7. -/
theorem volScale_product_inInt16_iff (n : Nat) :
    (∀ (x : Nat) (v : BitVec 3), x ≤ n → InInt16 (volScale .product (x : Int) v)) ↔ n * 7 ≤ 32767 := by
  simp only [volScale, InInt16]
  constructor
  · intro bounded
    have largest : (n : Int) * 7 ≤ 32767 := (bounded n 7 le_rfl).2
    omega
  · intro bound x v hx
    have upper : x * v.toNat ≤ n * 7 := Nat.mul_le_mul hx (by omega)
    omega

/-- `VolScale` given as a table is its entry at the sum and the volume, where there is one. -/
theorem volScale_table_of_lt {rows : List (List Int)} {x : Nat} {v : BitVec 3} (hx : x < rows.length)
    (hv : v.toNat < rows[x].length) : volScale (.table rows) (x : Int) v = rows[x][v.toNat] := by
  simp [volScale, hx, hv]

/-- A full table lists exactly the values of `VolScale`, so bounding its entries bounds the function. -/
theorem volScale_table_inInt16_iff {rows : List (List Int)} {n : Nat} (len : rows.length = n + 1)
    (wide : ∀ row ∈ rows, row.length = 8) :
    (∀ (x : Nat) (v : BitVec 3), x ≤ n → InInt16 (volScale (.table rows) (x : Int) v))
      ↔ ∀ row ∈ rows, ∀ y ∈ row, InInt16 y := by
  constructor
  · intro bounded row hrow y hy
    obtain ⟨x, hx, rfl⟩ := List.getElem_of_mem hrow
    obtain ⟨j, hj, rfl⟩ := List.getElem_of_mem hy
    have j_lt : j < 8 := wide _ hrow ▸ hj
    have toNat_eq : (BitVec.ofNat 3 j).toNat = j := by simpa using Nat.mod_eq_of_lt j_lt
    have entry := volScale_table_of_lt (v := BitVec.ofNat 3 j) hx (by rwa [toNat_eq])
    simp only [toNat_eq] at entry
    exact entry ▸ bounded x _ (by omega)
  · intro bounded x v hx
    have x_lt : x < rows.length := by omega
    have v_lt : v.toNat < rows[x].length := wide _ (List.getElem_mem x_lt) ▸ v.isLt
    rw [volScale_table_of_lt x_lt v_lt]
    exact bounded _ (List.getElem_mem x_lt) _ (List.getElem_mem v_lt)

/-- The check of `VolScale` is R116, with the full table of log entry 2. -/
theorem Params.volScaleWf_iff (p : Params) :
    p.volScaleWf = true ↔
      (∀ (x : Nat) (v : BitVec 3), x ≤ 4 * p.genSampleMax → InInt16 (Machine.volScale p.volScale (x : Int) v))
        ∧ ∀ rows, p.volScale = .table rows →
            rows.length = 4 * p.genSampleMax + 1 ∧ ∀ row ∈ rows, row.length = 8 := by
  unfold Params.volScaleWf
  cases p.volScale with
  | product => simp [volScale_product_inInt16_iff]
  | table rows =>
    simp only [Bool.and_eq_true, beq_iff_eq, List.all_eq_true, isInt16_iff, VolScale.table.injEq, forall_eq']
    constructor
    · rintro ⟨len, ok⟩
      have wide : ∀ row ∈ rows, row.length = 8 := fun row m => (ok row m).1
      exact ⟨(volScale_table_inInt16_iff len wide).2 fun row m => (ok row m).2, len, wide⟩
    · rintro ⟨bounded, len, wide⟩
      exact ⟨len, fun row m => ⟨wide row m, (volScale_table_inInt16_iff len wide).1 bounded row m⟩⟩

/-- `CenterScale` given as a table is its entry at the sum, where there is one. -/
theorem centerScale_table_of_lt {row : List Int} {x : Nat} (hx : x < row.length) :
    centerScale (.table row) (x : Int) = row[x] := by
  simp [centerScale, hx]

/-- The identity stays in 16 bits exactly if the largest sum does. -/
theorem centerScale_identity_inInt16_iff (n : Nat) :
    (∀ x : Nat, x ≤ n → InInt16 (centerScale .identity (x : Int))) ↔ n ≤ 32767 := by
  simp only [centerScale, InInt16]
  constructor
  · intro bounded
    have := (bounded n le_rfl).2
    omega
  · intro bound x hx
    omega

/-- A full table lists exactly the values of `CenterScale`. -/
theorem centerScale_table_inInt16_iff {row : List Int} {n : Nat} (len : row.length = n + 1) :
    (∀ x : Nat, x ≤ n → InInt16 (centerScale (.table row) (x : Int))) ↔ ∀ y ∈ row, InInt16 y := by
  constructor
  · intro bounded y hy
    obtain ⟨x, hx, rfl⟩ := List.getElem_of_mem hy
    exact centerScale_table_of_lt hx ▸ bounded x (by omega)
  · intro bounded x hx
    have x_lt : x < row.length := by omega
    rw [centerScale_table_of_lt x_lt]
    exact bounded _ (List.getElem_mem x_lt)

/-- The check of `CenterScale` is R116, with the full table of log entry 2. -/
theorem Params.centerScaleWf_iff (p : Params) :
    p.centerScaleWf = true ↔
      (∀ x : Nat, x ≤ 4 * p.genSampleMax → InInt16 (Machine.centerScale p.centerScale (x : Int)))
        ∧ ∀ row, p.centerScale = .table row → row.length = 4 * p.genSampleMax + 1 := by
  unfold Params.centerScaleWf
  cases p.centerScale with
  | identity => simp [centerScale_identity_inInt16_iff]
  | table row =>
    simp only [Bool.and_eq_true, beq_iff_eq, List.all_eq_true, isInt16_iff, CenterScale.table.injEq, forall_eq']
    rw [and_comm]
    exact and_congr_left fun len => (centerScale_table_inInt16_iff len).symm

/-- Settles O7: the map, the master block and the two scales each by the lemma for their check; what is left is the
order of the conjuncts. -/
theorem parametersAcceptedAreTheRules : Obligations.ParametersAcceptedAreTheRules := by
  intro p
  simp only [Params.wf, Bool.and_eq_true, decide_eq_true_eq, beq_iff_eq, Params.mapWf_iff, rangeSize_eq_three_iff,
    Params.volScaleWf_iff, Params.centerScaleWf_iff]
  tauto

end Sys2Proof

/-! PROOFS. What every call on a generator keeps (spec/44_generator_interface.md R171 to R183, R191 to R201), for
RefGen and for a generator of unknown inside. -/

namespace Sys2Proof.Machine

variable {p : Params} {g : GenId}

/-- An update that leaves the sweep counter, register 0 and the storage's length, and enables nothing, keeps RefGen's
invariant. -/
theorem RefGenInv.of_frame {r r' : RefGen} (h : RefGenInv p g r) (swCnt : r'.swCnt = r.swCnt) (r0 : r'.r0 = r.r0)
    (store : r'.store.length = r.store.length) (active : r'.active = true → r.active = true) : RefGenInv p g r' := by
  obtain ⟨noSweep, noReg, len, enabled⟩ := h
  exact ⟨fun ne => swCnt ▸ noSweep ne, fun e => r0 ▸ noReg e, store ▸ len, fun dac on => r0 ▸ enabled dac (active on)⟩

theorem refPower_inv (wf : p.wf = true) : RefGenInv p g (refPower p.waveInit g) := by
  obtain ⟨-, -, -, -, -, wave⟩ := Params.wf_scalars wf
  refine ⟨fun _ => rfl, fun _ => rfl, ?_, nofun⟩
  simp only [refPower]
  split <;> simp [wave]

/-- The length clock disables a generator and never enables one (R198). -/
theorem refClockLength_active_imp {r : RefGen} (h : (refClockLength r).active = true) : r.active = true := by
  obtain ⟨-, e⟩ | ⟨on, -, -⟩ := refClockLength_cases r
  · exact e ▸ h
  · exact on

theorem refClockLength_inv {r : RefGen} (h : RefGenInv p g r) : RefGenInv p g (refClockLength r) :=
  h.of_frame (by simp) (by simp) (by simp) refClockLength_active_imp

theorem refClockEnvelope_inv {r : RefGen} (h : RefGenInv p g r) : RefGenInv p g (refClockEnvelope r) :=
  h.of_frame (by simp) (by simp) (by simp) (by simp)

@[simp] theorem refClockSweep_store (r : RefGen) (m : Nat) : (refClockSweep m r).store = r.store := by
  obtain ⟨-, e⟩ | ⟨-, -, ⟨-, e⟩ | ⟨-, e⟩⟩ := refClockSweep_cases r m <;> simp [e]

/-- Generator 1 has neither an enable register nor storage, so its invariant says only that it stores nothing. -/
theorem refClockSweep_inv {r : RefGen} (h : RefGenInv p .g1 r) : RefGenInv p .g1 (refClockSweep p.freqMax r) := by
  obtain ⟨-, -, len, -⟩ := h
  exact ⟨fun ne => absurd rfl ne, nofun, by simpa using len, nofun⟩

/-- A write to offset 0 disables a generator whose enable register it turns off (R195). -/
theorem refWrite0_inv {r : RefGen} (h : RefGenInv p g r) (v : Byte) : RefGenInv p g (refWrite0 g r v) := by
  unfold refWrite0
  split
  next => exact h
  next ne =>
    obtain ⟨noSweep, -, len, -⟩ := h
    refine ⟨noSweep, fun e => absurd e ne, len, fun dac on => ?_⟩
    simp only at on
    split at on
    next => cases on
    next keep => simpa [dac] using keep

/-- A trigger takes the enable flag from the enable register (R196). -/
theorem refTrigger_inv {r : RefGen} (h : RefGenInv p g r) : RefGenInv p g (refTrigger g r) := by
  obtain ⟨noSweep, noReg, len, -⟩ := h
  refine ⟨fun ne => ?_, noReg, len, fun dac on => ?_⟩
  · simpa [refTrigger, ne] using noSweep ne
  · simpa [refTrigger, dac] using on

theorem refWrite4_inv {r : RefGen} (h : RefGenInv p g r) (v : Byte) : RefGenInv p g (refWrite4 g r v) := by
  unfold refWrite4
  dsimp only
  split
  · exact refTrigger_inv h
  · exact h

theorem refWrite_inv {r : RefGen} (h : RefGenInv p g r) (off : Nat) (v : Byte) : RefGenInv p g (refWrite g r off v) := by
  match off with
  | 0 => exact refWrite0_inv h v
  | 4 => exact refWrite4_inv h v
  | 1 | 2 | 3 | _ + 5 => exact h

/-- Every call keeps RefGen's invariant. -/
theorem refApply_inv (wf : p.wf = true) {r : RefGen} (h : RefGenInv p g r) (op : GenOp) :
    RefGenInv p g (refApply p g op r) := by
  cases op with
  | power => exact refPower_inv wf
  | clockLength => exact refClockLength_inv h
  | clockEnvelope =>
    simp only [refApply]
    split
    · exact h
    · exact refClockEnvelope_inv h
  | clockSweep =>
    simp only [refApply]
    split
    · subst_vars
      exact refClockSweep_inv h
    · exact h
  | write off v => exact refWrite_inv h off v
  | writeStorage i v =>
    simp only [refApply]
    split
    · exact h.of_frame rfl rfl List.length_set id
    · exact h
  | run | sample | read _ | readStorage _ => exact h

/-- An update that leaves the enable register and the lengths, and enables nothing, keeps the invariant of a generator
of unknown inside. -/
theorem ContractInv.of_frame {c c' : ContractGen} (h : ContractInv p g c) (store : c'.store.length = c.store.length)
    (regs : c'.regs.length = c.regs.length) (dac : c'.dac = c.dac) (active : c'.active = true → c.active = true) :
    ContractInv p g c' := by
  obtain ⟨storeLen, regsLen, enabled⟩ := h
  exact ⟨store ▸ storeLen, regs ▸ regsLen, fun on => dac ▸ enabled (active on)⟩

theorem contractPower_inv (wf : p.wf = true) : ContractInv p g (contractPower p g) := by
  obtain ⟨-, -, -, -, -, wave⟩ := Params.wf_scalars wf
  refine ⟨?_, by simp [contractPower], nofun⟩
  simp only [contractPower]
  split <;> simp [wave]

/-- The length clock touches only an enabled generator, and there neither the enable register nor a length (R180). -/
theorem contractClockLength_inv {c : ContractGen} (h : ContractInv p g c) :
    ContractInv p g (contractClockLength p g c) := by
  unfold contractClockLength
  split
  next on => split <;> exact h.of_frame rfl rfl rfl fun _ => on
  next => exact h

/-- A write enables only by a trigger that the enable register allows, and disables if that register is off (R183). -/
theorem contractWrite_inv {c : ContractGen} (h : ContractInv p g c) (off : Nat) (v : Byte) :
    ContractInv p g (contractWrite p g off v c) := by
  obtain ⟨storeLen, regsLen, -⟩ := h
  refine ⟨storeLen, by simpa [contractWrite] using regsLen, fun on => ?_⟩
  simp only [contractWrite] at on ⊢
  split at on
  · exact on
  · simp only [Bool.and_eq_true] at on
    exact on.2.2

/-- Every call keeps the invariant of a generator of unknown inside. -/
theorem contractApply_inv (wf : p.wf = true) {c : ContractGen} (h : ContractInv p g c) (op : GenOp) :
    ContractInv p g (contractApply p g op c) := by
  cases op with
  | power => exact contractPower_inv wf
  | clockLength => exact contractClockLength_inv h
  | clockEnvelope =>
    simp only [contractApply]
    split
    · exact h
    · exact h.of_frame rfl rfl rfl id
  | clockSweep =>
    simp only [contractApply]
    split
    · exact h.of_frame rfl rfl rfl fun on => ((contractClockSweep_active p c).1 on).1
    · exact h
  | write off v => exact contractWrite_inv h off v
  | writeStorage i v =>
    simp only [contractApply]
    split
    · exact h.of_frame List.length_set rfl rfl id
    · exact h
  | run | sample | read _ | readStorage _ => exact h

/-- Every call keeps the invariant of a generator. -/
theorem genApply_inv (wf : p.wf = true) {x : GenState} (h : GenInv p g x) (op : GenOp) :
    GenInv p g (genApply p g op x) := by
  cases x with
  | refGen r => exact refApply_inv wf h op
  | unknown c => exact contractApply_inv wf h op

theorem genPower_inv (wf : p.wf = true) (x : GenState) : GenInv p g (genPower p g x) := by
  cases x with
  | refGen r => exact refPower_inv wf
  | unknown c => exact contractPower_inv wf

/-- A call does not change which kind of generator it is, so it fits the parameters as before. -/
@[simp] theorem genFits_genApply (op : GenOp) (x : GenState) : genFits p (genApply p g op x) = genFits p x := by
  cases x <;> rfl

end Sys2Proof.Machine

/-! PROOFS. The ranges of the data path: samples and mixes (spec/41_mixer.md R116), filtered samples and accumulators
(spec/42_dc_filter.md R127, R130). -/

namespace Sys2Proof.Machine

variable {p : Params} {s : State}

theorem paramsOk_iff (s : State) :
    paramsOk s = true ↔ s.par.wf = true ∧ ∀ g, genFits s.par (getGen g s) = true := by
  simp only [paramsOk, Bool.and_eq_true]
  constructor
  · rintro ⟨wf, f1, f2, f3, f4⟩
    exact ⟨wf, fun g => by cases g <;> assumption⟩
  · rintro ⟨wf, fits⟩
    exact ⟨wf, fits .g1, fits .g2, fits .g3, fits .g4⟩

/-- A generator that fits the parameters keeps the bound of R175. -/
theorem genSample_le {x : GenState} (fits : genFits p x = true) : genSample p x ≤ p.genSampleMax := by
  cases x with
  | refGen r =>
    have fifteen : 15 ≤ p.genSampleMax := by simpa [genFits] using fits
    have := r.smp.isLt
    simp only [genSample]
    omega
  | unknown c => exact genSample_unknown_le p c

/-- A sum of up to four samples is a number between 0 and four times their bound. -/
theorem sumEnabled_cast_le (en : GenId → Bool) {x : GenId → Nat} {m : Nat} (le : ∀ g, x g ≤ m) :
    ∃ n : Nat, n ≤ 4 * m ∧ sumEnabled en (fun g => (x g : Int)) = n := by
  have term_le : ∀ g, (if en g then x g else 0) ≤ m := fun g => by
    split
    · exact le g
    · exact Nat.zero_le m
  refine ⟨(if en .g1 then x .g1 else 0) + (if en .g2 then x .g2 else 0) + (if en .g3 then x .g3 else 0)
    + (if en .g4 then x .g4 else 0), ?_, ?_⟩
  · linarith [term_le .g1, term_le .g2, term_le .g3, term_le .g4]
  · simp [sumEnabled]

/-- Under an accepted parameter set every mix of samples within the bound is a 16-bit value (R116). -/
theorem mixOf_inInt16 (wf : p.wf = true) (mroute mvol : Byte) {x : GenId → Nat} (le : ∀ g, x g ≤ p.genSampleMax) :
    let m := mixOf p mroute mvol (fun g => (x g : Int))
    InInt16 m.l ∧ InInt16 m.r ∧ InInt16 m.c := by
  obtain ⟨vol, -⟩ := p.volScaleWf_iff.1 (Params.wf_volScale wf)
  obtain ⟨centre, -⟩ := p.centerScaleWf_iff.1 (Params.wf_centerScale wf)
  obtain ⟨nl, hl, el⟩ := sumEnabled_cast_le (enL mroute) le
  obtain ⟨nr, hr, er⟩ := sumEnabled_cast_le (enR mroute) le
  obtain ⟨nc, hc, ec⟩ := sumEnabled_cast_le (fun _ => true) le
  refine ⟨?_, ?_, ?_⟩
  · simpa only [mixOf, el] using vol nl _ hl
  · simpa only [mixOf, er] using vol nr _ hr
  · simp only [mixOf]
    split
    · simp only [sumEnabled, if_true] at ec
      simpa only [ec] using centre nc hc
    · decide

theorem clamp16_inInt16 (x : Int) : InInt16 (clamp16 x) := by
  rw [clamp16_eq]
  constructor <;> omega

theorem hpfOut_inInt16 (p : Params) (bias x : Int) : InInt16 (hpfOut p bias x) := clamp16_inInt16 _

theorem biasBound_eq (p : Params) : biasBound p = 32768 * ((2 ^ p.shiftA : Nat) : Int) ^ 2 := by
  simp only [biasBound, Nat.pow_add, pow_two_mul]
  push_cast
  ring

theorem biasBound_nonneg (p : Params) : 0 ≤ biasBound p := Int.natCast_nonneg _

/-- The value an accumulator approaches is within the bound, for a 16-bit input. -/
theorem abs_hpfTarget_le (p : Params) (bias : Int) {x : Int} (hx : InInt16 x) : |hpfTarget p bias x| ≤ biasBound p := by
  obtain ⟨lo, hi⟩ := hx
  rw [biasBound_eq, hpfTarget, abs_le]
  have one_le : (1 : Int) ≤ ((2 ^ p.shiftA : Nat) : Int) := by exact_mod_cast Nat.one_le_two_pow
  generalize ((2 ^ p.shiftA : Nat) : Int) = A at *
  have rem_nonneg := Int.emod_nonneg bias (b := A) (by omega)
  have rem_lt := Int.emod_lt_of_pos bias (b := A) (by omega)
  constructor <;> nlinarith

/-- A filter step keeps the bound: the new accumulator lies between the old one and the target (R130). -/
theorem abs_hpfBias_le (kpos : 0 < p.k) (kle : p.k ≤ 2 ^ (2 * p.shiftA)) {bias x : Int} (hb : |bias| ≤ biasBound p)
    (hx : InInt16 x) : |hpfBias p bias x| ≤ biasBound p := by
  obtain ⟨up, down⟩ := hpfBias_between p bias x kpos kle
  have target := abs_hpfTarget_le p bias hx
  rw [abs_le] at hb target ⊢
  obtain h | h := le_total 0 (hpfDiff p bias x)
  · have := up h
    omega
  · have := down h
    omega

end Sys2Proof.Machine

/-! PROOFS. What the operations of the block keep (spec/10_state.md R37), from one call on a generator to the cycle, and
the state after `RESET`. -/

namespace Sys2Proof.Machine

variable {s t : State}

/-- The invariant under accepted parameters, without its two clauses about the host: what the operations of the block
keep whether the audio context runs or not. -/
structure BlockInv (s : State) : Prop where
  ok : paramsOk s = true
  inv : Inv { s with suspended := true, hostFault := none }

theorem Inv.block (h : Inv s) (ok : paramsOk s = true) : BlockInv s :=
  ⟨ok, { h with suspended := fun _ => rfl, faulted := fun ne => absurd rfl ne }⟩

theorem BlockInv.wf (b : BlockInv s) : s.par.wf = true := paramsOk_wf b.ok

theorem BlockInv.gens (b : BlockInv s) : ∀ g, GenInv s.par g (getGen g s) := b.inv.gens

/-- A suspended context without a host fault turns the block's invariant into the machine's. -/
theorem BlockInv.settled (b : BlockInv s) (su : s.suspended = true) (sound : s.hostFault = none) : Inv s :=
  { b.inv with suspended := fun _ => su, faulted := fun ne => absurd sound ne }

/-- The block's invariant does not speak of the adapter, the host, or the records of reads and calls. -/
theorem BlockInv.of_hostSide (b : BlockInv s) (clock : Int) (pt : ResumePt) (su : Bool) (sync : SyncMode)
    (log : List (Option Byte)) (trace : List GenCall) (exits : List Suspension) (f : Option HostCause)
    (pending : List HostMove) :
    BlockInv { s with
      clock := clock, resumePt := pt, suspended := su, sync := sync, readLog := log, trace := trace, exits := exits
      hostFault := f, pending := pending } :=
  ⟨b.ok, { b.inv with suspended := fun _ => rfl, faulted := fun ne => absurd rfl ne }⟩

/-- `t` is `s` after operations of the block: the parameters and the host's side are as before, and the block's
invariant is kept. -/
structure Kept (s t : State) : Prop where
  par : t.par = s.par
  suspended : t.suspended = s.suspended
  hostFault : t.hostFault = s.hostFault
  block : BlockInv s → BlockInv t

theorem Kept.refl (s : State) : Kept s s := ⟨rfl, rfl, rfl, id⟩

theorem Kept.trans {u : State} (k : Kept s t) (l : Kept t u) : Kept s u :=
  ⟨l.par.trans k.par, l.suspended.trans k.suspended, l.hostFault.trans k.hostFault, l.block ∘ k.block⟩

theorem Kept.ite (c : Prop) [Decidable c] (k : Kept s t) : Kept s (if c then t else s) := by
  split
  · exact k
  · exact Kept.refl s

/-- An operation that completes on a suspended context without a host fault keeps the machine's invariant. -/
theorem Kept.inv (k : Kept s t) (b : BlockInv s) (su : s.suspended = true) (sound : s.hostFault = none) :
    Inv t ∧ t.par = s.par :=
  ⟨(k.block b).settled (k.suspended.trans su) (k.hostFault.trans sound), k.par⟩

variable (s)

theorem kept_respond (v : Option Byte) : Kept s (respond v s) := ⟨rfl, rfl, rfl, fun b => b.of_hostSide ..⟩

theorem kept_logCall (g : GenId) (op : GenOp) : Kept s (logCall g op s) := ⟨rfl, rfl, rfl, fun b => b.of_hostSide ..⟩

theorem kept_setMenable (d : Byte) : Kept s (setMenable d s) := ⟨rfl, rfl, rfl, fun b => ⟨b.ok, { b.inv with }⟩⟩

theorem kept_mvol (d : Byte) : Kept s { s with mvol := d } := ⟨rfl, rfl, rfl, fun b => ⟨b.ok, { b.inv with }⟩⟩

theorem kept_mroute (d : Byte) : Kept s { s with mroute := d } := ⟨rfl, rfl, rfl, fun b => ⟨b.ok, { b.inv with }⟩⟩

theorem kept_phase (q : BitVec 3) : Kept s { s with phase := q } := ⟨rfl, rfl, rfl, fun b => ⟨b.ok, { b.inv with }⟩⟩

variable {s} in
theorem kept_gated {f : State → State} (k : Kept s (f s)) : Kept s (gated f s) := k.ite _

@[simp] theorem paramsOk_callGen (g : GenId) (op : GenOp) : paramsOk (callGen g op s) = paramsOk s := by
  cases g <;> simp [paramsOk, callGen, logCall, setGen, getGen]

/-- The called generator keeps its invariant and the others are not touched. -/
theorem genInv_callGen {g : GenId} {op : GenOp} (wf : s.par.wf = true) (gens : ∀ h, GenInv s.par h (getGen h s))
    (h : GenId) : GenInv (callGen g op s).par h (getGen h (callGen g op s)) := by
  rw [callGen_par]
  by_cases e : h = g
  · subst e
    rw [getGen_callGen_same]
    exact genApply_inv wf (gens h) op
  · rw [getGen_callGen_other _ _ _ _ e]
    exact gens h

theorem kept_callGen (g : GenId) (op : GenOp) : Kept s (callGen g op s) where
  par := callGen_par ..
  suspended := callGen_suspended ..
  hostFault := callGen_hostFault ..
  block b :=
    { ok := by simpa using b.ok
      inv :=
        { suspended := fun _ => rfl
          faulted := fun ne => absurd rfl ne
          stage := by simpa using b.inv.stage
          biasL := by simpa using b.inv.biasL
          biasR := by simpa using b.inv.biasR
          biasC := by simpa using b.inv.biasC
          noCentre := by simpa using b.inv.noCentre
          mixed := by simpa using b.inv.mixed
          filtered := by simpa using b.inv.filtered
          samples := by simpa using b.inv.samples
          gens := genInv_callGen s b.wf b.gens } }

theorem kept_callAll (gs : List GenId) (op : GenOp) : Kept s (callAll gs op s) := by
  induction gs generalizing s with
  | nil => exact Kept.refl s
  | cons g gs ih => exact (kept_callGen s g op).trans (ih _)

theorem kept_dispatchEvents : Kept s (dispatchEvents s) :=
  ((kept_callAll s _ _).ite _).trans (((kept_callGen _ _ _).ite _).trans ((kept_callAll _ _ _).ite _))

theorem kept_decodeAndDispatch : Kept s (decodeAndDispatch s) :=
  (kept_dispatchEvents s).trans (kept_phase _ _)

/-- The divider counts modulo SEQ_DIV, which is at least 1 (R91). -/
theorem kept_stage : Kept s { s with stage := (s.stage + 1) % s.par.seqDiv } where
  par := rfl
  suspended := rfl
  hostFault := rfl
  block b :=
    have pos : 1 ≤ s.par.seqDiv := (Params.wf_scalars b.wf).1
    ⟨b.ok, { b.inv with stage := Nat.mod_lt _ pos }⟩

theorem kept_seqStep : Kept s (seqStep s) := (kept_stage s).trans ((kept_decodeAndDispatch _).ite _)

theorem kept_runStep : Kept s (runStep s) := kept_callAll s _ _

theorem kept_readGenerator (g : GenId) (off : Nat) : Kept s (readGenerator g off s) :=
  (kept_logCall s _ _).trans (kept_respond _ _)

theorem kept_readStorage (i : Nat) : Kept s (readStorage i s) := (kept_logCall s _ _).trans (kept_respond _ _)

theorem kept_writeGenerator (g : GenId) (off : Nat) (d : Byte) : Kept s (writeGenerator g off d s) :=
  kept_gated (kept_callGen s _ _)

theorem kept_writeStorage (i : Nat) (d : Byte) : Kept s (writeStorage i d s) := kept_gated (kept_callGen s _ _)

variable {s}

/-- The mix of a state with accepted parameters is a 16-bit value on every channel (R116). -/
theorem mix_inInt16 (ok : paramsOk s = true) :
    let m := mixOf s.par s.mroute s.mvol (smp s)
    InInt16 m.l ∧ InInt16 m.r ∧ InInt16 m.c := by
  obtain ⟨wf, fits⟩ := (paramsOk_iff s).1 ok
  exact mixOf_inInt16 wf _ _ fun g => genSample_le (fits g)

/-- The sample a cycle delivers is in range, with a centre value exactly if `HAS_CENTER` (R212, R113). -/
theorem sampleOk_hpfOut (p : Params) (bl br bc : Int) (m : Triple) :
    SampleOk p ⟨hpfOut p bl m.l, hpfOut p br m.r, if p.hasCenter then some (hpfOut p bc m.c) else none⟩ := by
  refine ⟨hpfOut_inInt16 .., hpfOut_inInt16 .., ?_, fun c e => ?_⟩
  · cases p.hasCenter <;> rfl
  · split at e
    · cases e
      exact hpfOut_inInt16 ..
    · cases e

variable (s) in
/-- A cycle consumes what it has in flight, and its mix drives the accumulators within their bound. -/
theorem kept_cycleStep : Kept s (cycleStep s) where
  par := cycleStep_par s
  suspended := cycleStep_suspended s
  hostFault := cycleStep_hostFault s
  block b := by
    have ran : BlockInv (runStep (seqStep s)) := ((kept_seqStep s).trans (kept_runStep _)).block b
    obtain ⟨inL, inR, inC⟩ : InInt16 (cycleMix s).l ∧ InInt16 (cycleMix s).r ∧ InInt16 (cycleMix s).c := by
      simpa [cycleMix] using mix_inInt16 ran.ok
    obtain ⟨seqPos, kpos, kle, -⟩ := Params.wf_scalars b.wf
    have gens : ∀ g, GenInv (cycleStep s).par g (getGen g (cycleStep s)) := by simpa using ran.gens
    refine ⟨(paramsOk_iff _).2 ?_, ?_⟩
    · simpa using (paramsOk_iff _).1 ran.ok
    · exact
        { suspended := fun _ => rfl
          faulted := fun ne => absurd rfl ne
          stage := by simpa using Nat.mod_lt _ seqPos
          biasL := by simpa using abs_hpfBias_le kpos kle b.inv.biasL inL
          biasR := by simpa using abs_hpfBias_le kpos kle b.inv.biasR inR
          biasC := by
            simp only [cycleStep_biasC, cycleStep_par]
            split
            · exact abs_hpfBias_le kpos kle b.inv.biasC inC
            · exact b.inv.biasC
          noCentre := fun no => by
            have no : s.par.hasCenter = false := by simpa using no
            simpa [no] using b.inv.noCentre no
          mixed := cycleStep_mixed s
          filtered := cycleStep_filtered s
          samples := by
            simp only [cycleStep_samples, cycleStep_par, List.forall_mem_append, List.forall_mem_singleton]
            exact ⟨b.inv.samples, sampleOk_hpfOut ..⟩
          gens := gens }

/-- `RESET` gives a state that meets the invariant, whatever the state before it (R260). -/
theorem resetStep_inv (wf : s.par.wf = true) : Inv (resetStep s) where
  suspended := fun _ => rfl
  faulted := fun ne => absurd rfl ne
  stage := (Params.wf_scalars wf).1
  biasL := by simpa [resetStep] using biasBound_nonneg s.par
  biasR := by simpa [resetStep] using biasBound_nonneg s.par
  biasC := by simpa [resetStep] using biasBound_nonneg s.par
  noCentre := fun _ => rfl
  mixed := rfl
  filtered := rfl
  samples := nofun
  gens := fun g => by cases g <;> exact genPower_inv wf _

/-- `RESET` of the reset state changes nothing. -/
theorem resetStep_reset : resetStep State.reset = State.reset := rfl

/-- Settles O47: REF is accepted, and the reset state is one that `RESET` gives. -/
theorem invariantHoldsAtReset : Obligations.InvariantHoldsAtReset := by
  have ok : paramsOk State.reset = true := by decide
  exact ⟨resetStep_reset ▸ resetStep_inv (paramsOk_wf ok), ok⟩

end Sys2Proof.Machine

/-! PROOFS. The invariant through the moves of the host: the adapter's loop, which suspends (spec/46_scheduler_adapter.md
R221, R226, R228), a command word, a host fault (spec/60_exceptions.md R241), and so one step of the machine. -/

namespace Sys2Proof.Machine

variable {s t : State}

theorem adapterIteration_block (b : BlockInv s) : BlockInv (adapterIteration s) := by
  by_cases h : s.resumePt = .atTop ∧ s.sync = .all
  · rw [adapterIteration_forced s h.1 h.2]
    exact b.of_hostSide ..
  · have cycled : BlockInv (cycleStep { s with resumePt := .atTop }) := (kept_cycleStep _).block (b.of_hostSide ..)
    rw [adapterIteration_cycle s h]
    dsimp only
    split <;> exact cycled.of_hostSide ..

theorem adapterLoop_block (n : Nat) (b : BlockInv s) : BlockInv (adapterLoop n s) := by
  induction n generalizing s with
  | zero => exact b
  | succ n ih =>
    rw [adapterLoop_succ]
    split
    · exact adapterIteration_block b
    · exact ih (adapterIteration_block b)

/-- An iteration that does not suspend has made one cycle, and has not caught up unless the sync is forced. -/
theorem adapterIteration_running (h : (adapterIteration s).suspended = false) :
    (adapterIteration s).clock = s.clock + (s.par.clkStep : Int) ∧ (adapterIteration s).resumePt = .atTop
      ∧ (s.clock + (s.par.clkStep : Int) < 0 ∨ s.sync = .all) := by
  by_cases forced : s.resumePt = .atTop ∧ s.sync = .all
  · simp [adapterIteration_forced s forced.1 forced.2] at h
  · rw [adapterIteration_cycle s forced] at h ⊢
    dsimp only at h ⊢
    split at h
    next => cases h
    next late =>
      rw [if_neg late]
      refine ⟨rfl, by simp, ?_⟩
      by_cases all : s.sync = .all
      · exact .inr all
      · exact .inl (by simpa [all] using late)

/-- The loop suspends within `resumeFuel` iterations: each cycle moves the clock up, and under forced sync the second
iteration suspends (R226). -/
theorem adapterLoop_suspended {n : Nat} (step : 1 ≤ s.par.clkStep) (fuel : resumeFuel s ≤ n) :
    (adapterLoop n s).suspended = true := by
  induction n generalizing s with
  | zero => simp [resumeFuel] at fuel
  | succ n ih =>
    rw [adapterLoop_succ]
    split
    next done => exact done
    next running =>
      obtain ⟨clock, top, late | all⟩ := adapterIteration_running (Bool.eq_false_iff.2 running)
      · refine ih (by simpa using step) ?_
        simp only [resumeFuel, clock] at fuel ⊢
        omega
      · obtain _ | m := n
        · simp [resumeFuel] at fuel
        · have suspends := adapterIteration_forced _ top ((adapterIteration_sync s).trans all)
          simp [adapterLoop_succ, suspends]

/-- A host fault is a next state only if `RESET` follows, which is what the invariant asks of a faulted state. -/
theorem hostViolation_inv {c : HostCause} (b : BlockInv s) (h : hostViolation c s = .next t) :
    Inv t ∧ t.par = s.par := by
  rw [hostViolation_eq] at h
  split at h
  next resets =>
    cases h
    exact ⟨{ b.inv with suspended := nofun, faulted := fun _ => resets }, rfl⟩
  next => cases h

/-- A move made inside a cycle is a host fault, whichever move it is (R241). -/
theorem intrude_eq_hostViolation (m : Intrusion) (s : State) :
    ∃ c, intrude m s = hostViolation c { s with suspended := false } := by
  cases m with
  | rd a => exact ⟨_, issue_access_running _ (decodeRd_isAccess _ _) rfl⟩
  | wr a d => exact ⟨_, issue_access_running _ (decodeWr_isAccess _ _ _) rfl⟩
  | grant n => exact ⟨_, rfl⟩
  | sync m => exact ⟨_, rfl⟩
  | resume => exact ⟨_, rfl⟩

/-- The decoder answers a `CYCLE`, a `RESET` or an access at an address, and no sub-operation of a cycle (R72, R81). -/
theorem decode_ok_cases {p : Params} {w : Nat} {c : Command} (h : decode p w = .ok c) :
    c = .instr .cycle ∨ c = .instr .reset ∨ (∃ a, c = decodeRd p a) ∨ ∃ a d, c = decodeWr p a d := by
  unfold decode at h
  split at h
  · split at h <;> cases h
    · exact .inl rfl
    · exact .inr (.inl rfl)
    · exact .inr (.inr (.inl ⟨_, rfl⟩))
    · exact .inr (.inr (.inr ⟨_, _, rfl⟩))
  · cases h

theorem runDecoded_decodeRd_kept (p : Params) (a : Nat) (h : runDecoded (decodeRd p a) s = .next t) : Kept s t := by
  rw [runDecoded_decodeRd] at h
  cases h
  cases route p a with
  | gen g off => exact kept_readGenerator s g off
  | storage i => exact kept_readStorage s i
  | notSelected | mvol | mroute | mctrl | fill => exact kept_respond s _

theorem runDecoded_decodeWr_kept (p : Params) (a : Nat) (d : Byte) (h : runDecoded (decodeWr p a d) s = .next t) :
    Kept s t := by
  rw [runDecoded_decodeWr] at h
  cases h
  cases route p a with
  | gen g off => exact kept_writeGenerator s g off d
  | mvol => exact kept_gated (kept_mvol s d)
  | mroute => exact kept_gated (kept_mroute s d)
  | mctrl => exact kept_setMenable s d
  | storage i => exact kept_writeStorage s i d
  | notSelected | fill => exact Kept.refl s

section
variable (b : BlockInv s) (su : s.suspended = true) (sound : s.hostFault = none)
include b su sound

theorem runCommand_inv {w : Nat} (h : runCommand w s = .next t) : Inv t ∧ t.par = s.par := by
  unfold runCommand at h
  split at h
  next c decoded =>
    rw [issue_lawful c fun _ => su] at h
    obtain rfl | rfl | ⟨a, rfl⟩ | ⟨a, d, rfl⟩ := decode_ok_cases decoded
    · cases h
      exact (kept_cycleStep s).inv b su sound
    · cases h
      exact ⟨resetStep_inv b.wf, rfl⟩
    · exact (runDecoded_decodeRd_kept _ a h).inv b su sound
    · exact (runDecoded_decodeWr_kept _ a d h).inv b su sound
  next => cases h

/-- `RESUME` returns with the context suspended, so what the loop kept is the machine's invariant (R228). -/
theorem resume_inv (h : resume s = .next t) : Inv t ∧ t.par = s.par := by
  rw [resume, if_pos su] at h
  cases h
  have started : BlockInv { s with suspended := false } := b.of_hostSide ..
  have step : 1 ≤ s.par.clkStep := (Params.wf_scalars b.wf).2.2.2.2.1
  exact ⟨(adapterLoop_block _ started).settled (adapterLoop_suspended step le_rfl) (by simpa using sound), by simp⟩

theorem grant_inv {n : Nat} (h : grant n s = .next t) : Inv t ∧ t.par = s.par := by
  rw [grant, if_pos su] at h
  cases h
  exact ⟨(b.of_hostSide ..).settled su sound, rfl⟩

theorem setSync_inv {m : SyncMode} (h : setSync m s = .next t) : Inv t ∧ t.par = s.par := by
  rw [setSync, if_pos su] at h
  cases h
  exact ⟨(b.of_hostSide ..).settled su sound, rfl⟩

theorem hostMove_inv {m : HostMove} (h : hostMove m s = .next t) : Inv t ∧ t.par = s.par := by
  cases m with
  | cmd w => exact runCommand_inv (w := w) b su sound h
  | resume => exact resume_inv b su sound h
  | grant n => exact grant_inv b su sound h
  | sync m => exact setSync_inv b su sound h
  | intrude m =>
    obtain ⟨c, e⟩ := intrude_eq_hostViolation m s
    exact hostViolation_inv (s := { s with suspended := false }) (b.of_hostSide ..) (e.symm.trans h)

end

/-- After a host fault only `RESET` gives a next state, and it restores the invariant (R241, R260). -/
theorem step_faulted_inv {c : HostCause} (b : BlockInv s) (faulted : s.hostFault = some c) (resets : resetNext s = true)
    (h : step s = .next t) : Inv t ∧ t.par = s.par := by
  obtain ⟨w, rest, next, decoded⟩ := (resetNext_iff s).1 resets
  rw [step_faulted b.ok faulted, if_pos resets, makeMove_reset next decoded] at h
  cases h
  exact ⟨resetStep_inv b.wf, rfl⟩

/-- Without a host fault the step is the host's next move, or none. -/
theorem step_sound_inv (b : BlockInv s) (su : s.suspended = true) (sound : s.hostFault = none) (h : step s = .next t) :
    Inv t ∧ t.par = s.par := by
  cases moves : s.pending with
  | nil =>
    have idle : step s = .next s := by simp [step, b.ok, nextMove, sound, makeMove, moves, done]
    cases idle.symm.trans h
    exact ⟨b.settled su sound, rfl⟩
  | cons m rest =>
    rw [step_of_pending b.ok sound moves] at h
    exact hostMove_inv (s := { s with pending := rest }) (b.of_hostSide ..) su sound h

/-- Settles O48: ill-formed parameters answer no next state; else the host fault decides whether the step is the host's
next move or the `RESET` that the invariant promises. -/
theorem everyStepKeepsTheInvariant : Obligations.EveryStepKeepsTheInvariant := by
  intro s t inv h
  cases ok : paramsOk s with
  | false => simp [step, ok] at h
  | true =>
    have b := inv.block ok
    cases fault : s.hostFault with
    | none => exact step_sound_inv b (inv.suspended fault) fault h
    | some c => exact step_faulted_inv b fault (inv.faulted (by simp [fault])) h

end Sys2Proof.Machine

/-! PROOFS. The separation of the bytes of the register window (spec/20_memory.md R56, R58): the address decode gives each
byte an address of its own, and a write to a RefGen reaches one byte (spec/44_generator_interface.md R194, R195, R201). -/

namespace Sys2Proof.Machine

variable {p : Params} {s t : State}

/-- The address whose byte a region is; the fill region and `NotSelected` have no byte of their own. -/
def regionAddr (p : Params) : Region → Option Nat
  | .gen g off => some (genAddr p g off)
  | .mvol => some (addrMvol p)
  | .mroute => some (addrMroute p)
  | .mctrl => some (addrMctrl p)
  | .storage i => some (p.rngW.lo + i)
  | .notSelected | .fill => none

/-- An offset is the distance to the start of its range (R74), so the address can be recovered from it. -/
theorem lo_add_sub_lo {r : Range} {a : Nat} (h : inRange r a = true) : r.lo + (a - r.lo) = a :=
  Nat.add_sub_cancel' ((inRange_iff r a).1 h).1

/-- An address is the one of the region it routes to, unless that region has none (R144). -/
theorem regionAddr_route (p : Params) (a : Nat) :
    regionAddr p (route p a) = some a ∨ route p a = .notSelected ∨ route p a = .fill := by
  unfold route
  split_ifs with out g1 g2 g3 g4 mvol mroute mctrl storage
  · exact .inr (.inl rfl)
  · exact .inl (congrArg some (lo_add_sub_lo g1))
  · exact .inl (congrArg some (lo_add_sub_lo g2))
  · exact .inl (congrArg some (lo_add_sub_lo g3))
  · exact .inl (congrArg some (lo_add_sub_lo g4))
  · exact .inl (congrArg some mvol.symm)
  · exact .inl (congrArg some mroute.symm)
  · exact .inl (congrArg some mctrl.symm)
  · exact .inl (congrArg some (lo_add_sub_lo storage))
  · exact .inr (.inr rfl)

/-- Two addresses share no region but the fill region and `NotSelected`. -/
theorem route_eq_cases {a b : Nat} (h : route p b = route p a) :
    b = a ∨ route p b = .notSelected ∨ route p b = .fill := by
  obtain eb | none := regionAddr_route p b
  · obtain ea | none := regionAddr_route p a
    · exact .inl (Option.some.inj (eb.symm.trans ((congrArg _ h).trans ea)))
    · exact .inr (h ▸ none)
  · exact .inr none

/-- What a `RD` at an address of the region returns (R140). -/
def regionByte (s : State) : Region → Option Byte
  | .notSelected => none
  | .gen g off => some (genByte g off s)
  | .mvol => some s.mvol
  | .mroute => some s.mroute
  | .mctrl => some (mctrlByte s)
  | .storage i => some (storageByte i s)
  | .fill => some fillByte

theorem peek_eq_regionByte (a : Nat) (s : State) : peek a s = regionByte s (route s.par a) := by
  unfold peek
  cases route s.par a <;> rfl

section
variable (g : GenId) (r : RefGen) (v : Byte)

/-- A write to register 0 changes no other register. -/
theorem refRead_refWrite0_other {o : Nat} (ne : o ≠ 0) : refRead g (refWrite0 g r v) o = refRead g r o := by
  unfold refWrite0
  split
  · rfl
  · match o with
    | 1 | 2 | 3 | 4 | _ + 5 => rfl

/-- A write to register 4 changes no other register: of the frequency, register 3 holds only the low byte. -/
theorem refRead_refWrite4_other {o : Nat} (ne : o ≠ 4) : refRead g (refWrite4 g r v) o = refRead g r o := by
  unfold refWrite4
  dsimp only
  match o with
  | 0 | 1 | 2 | _ + 5 => split <;> rfl
  | 3 => split <;> exact freq_low ..

/-- A write to an offset changes what is read at no other offset of the generator (R194, R195). Registers 3 and 4 share
the frequency, of which each holds its own bits. -/
theorem refRead_refWrite_other {off o : Nat} (ne : o ≠ off) : refRead g (refWrite g r off v) o = refRead g r o := by
  match off with
  | 0 => exact refRead_refWrite0_other g r v ne
  | 1 =>
    match o with
    | 0 | 2 | 3 | 4 | _ + 5 => rfl
  | 2 =>
    match o with
    | 0 | 1 | 3 | 4 | _ + 5 => rfl
  | 3 =>
    match o with
    | 0 | 1 | 2 | _ + 5 => rfl
    | 4 => exact congrArg (1#1 ++ BitVec.ofBool r.lenMode ++ 7#3 ++ ·) (freq_high ..)
  | 4 => exact refRead_refWrite4_other g r v ne
  | _ + 5 => rfl

/-- No register write changes the raw sample storage (R195). -/
@[simp] theorem refWrite_store (off : Nat) : (refWrite g r off v).store = r.store := by
  match off with
  | 0 =>
    simp only [refWrite, refWrite0]
    split <;> rfl
  | 4 =>
    simp only [refWrite, refWrite4]
    split <;> rfl
  | 1 | 2 | 3 | _ + 5 => rfl

/-- A write to the raw sample storage changes no register (R201). -/
@[simp] theorem refRead_refWriteStorage (i o : Nat) : refRead g (refWriteStorage r i v) o = refRead g r o := by
  match o with
  | 0 | 1 | 2 | 3 | 4 | _ + 5 => rfl

/-- A write to the raw sample storage changes no other byte of it (R201). -/
theorem refReadStorage_refWriteStorage_other {i j : Nat} (ne : j ≠ i) :
    refReadStorage (refWriteStorage r i v) j = refReadStorage r j := by
  simp [refReadStorage, refWriteStorage, storeRead_set, ne]

end

/-- A call on a generator changes a byte of the window only if it changes the register or the storage byte that the
generator itself answers there. -/
theorem regionByte_callGen {g : GenId} {op : GenOp} {y : Region}
    (register : ∀ o, y = .gen g o →
      genRead s.par g o (genApply s.par g op (getGen g s)) = genRead s.par g o (getGen g s))
    (storage : ∀ i, y = .storage i → g = .g3 →
      genReadStorage i (genApply s.par g op (getGen g s)) = genReadStorage i (getGen g s)) :
    regionByte (callGen g op s) y = regionByte s y := by
  cases y with
  | gen h o =>
    by_cases e : h = g
    · subst e
      simpa [regionByte, genByte] using register o rfl
    · simp [regionByte, genByte, e]
  | storage i =>
    change some (genReadStorage i (getGen .g3 (callGen g op s))) = some (genReadStorage i (getGen .g3 s))
    by_cases e : GenId.g3 = g
    · subst e
      simpa using storage i rfl rfl
    · simp [e]
  | mvol | mroute | mctrl => simp [regionByte, mctrlByte]
  | notSelected | fill => rfl

/-- A write to a register of a RefGen changes the byte of that register only. -/
theorem regionByte_callGen_write {g : GenId} {r : RefGen} (ref : getGen g s = .refGen r) {off : Nat} (d : Byte)
    {y : Region} (ne : y ≠ .gen g off) : regionByte (callGen g (.write off d) s) y = regionByte s y := by
  apply regionByte_callGen
  · rintro o rfl
    have other : o ≠ off := fun e => ne (e ▸ rfl)
    rw [ref]
    exact refRead_refWrite_other g r d other
  · rintro i - -
    simp [ref, genApply, refApply, genReadStorage, refReadStorage]

/-- A write to the extended block of a RefGen changes the byte of its index only. -/
theorem regionByte_callGen_writeStorage {r : RefGen} (ref : getGen .g3 s = .refGen r) {i : Nat} (d : Byte)
    {y : Region} (ne : y ≠ .storage i) : regionByte (callGen .g3 (.writeStorage i d) s) y = regionByte s y := by
  apply regionByte_callGen
  · rintro o -
    simp [ref, genApply, refApply, genRead]
  · rintro j rfl -
    have other : j ≠ i := fun e => ne (e ▸ rfl)
    rw [ref]
    exact refReadStorage_refWriteStorage_other r d other

/-- The gate can only take a write away (R143). -/
theorem regionByte_gated {f : State → State} {y : Region} (h : regionByte (f s) y = regionByte s y) :
    regionByte (gated f s) y = regionByte s y := by
  obtain ⟨-, e⟩ | ⟨-, e⟩ := gated_cases s f
  · rw [e, h]
  · rw [e]

/-- A `WR` with RefGen generators changes the byte of the region its address routes to and no other. -/
theorem regionByte_runDecoded_decodeWr (refs : ∀ g, ∃ r, getGen g s = .refGen r) {a : Nat} {d : Byte}
    (h : runDecoded (decodeWr p a d) s = .next t) {y : Region} (ne : y ≠ route p a) :
    regionByte t y = regionByte s y := by
  rw [runDecoded_decodeWr] at h
  cases h
  generalize route p a = x at ne ⊢
  cases x with
  | gen g off =>
    obtain ⟨r, ref⟩ := refs g
    exact regionByte_gated (regionByte_callGen_write ref d ne)
  | storage i =>
    obtain ⟨r, ref⟩ := refs .g3
    exact regionByte_gated (regionByte_callGen_writeStorage ref d ne)
  | mvol =>
    refine regionByte_gated ?_
    cases y with
    | mvol => exact absurd rfl ne
    | _ => rfl
  | mroute =>
    refine regionByte_gated ?_
    cases y with
    | mroute => exact absurd rfl ne
    | _ => rfl
  | mctrl =>
    cases y with
    | mctrl => exact absurd rfl ne
    | _ => rfl
  | notSelected | fill => rfl

/-- Settles O14: another address routes to another region, which the write leaves alone, or it has no byte of its own. -/
theorem writeReachesOnlyItsAddress : Obligations.WriteReachesOnlyItsAddress := by
  intro s t a d rest ok sound su refs lt next h b ne
  rw [step_wr ok sound su lt next] at h
  have par : t.par = s.par := (runDecoded_decodeWr_kept _ a d h).par
  rw [peek_eq_regionByte, peek_eq_regionByte, par]
  by_cases same : route s.par b = route s.par a
  · obtain e | e | e := route_eq_cases same
    · exact absurd e ne
    · rw [e]; rfl
    · rw [e]; rfl
  · exact regionByte_runDecoded_decodeWr (s := { s with pending := rest }) refs h same

end Sys2Proof.Machine

/-! PROOFS. The address decode `Route` under a well-formed map (spec/43_register_dispatcher.md R144): each region is
reached at its own address, and what an address is routed to exists. -/

namespace Sys2Proof.Machine

variable {p : Params} {a i off : Nat} {g : GenId}

/-- The operand of a region names a register or a byte that its block has (R74). -/
def regionExists (p : Params) : Region → Bool
  | .gen g off => hasOffset p g off
  | .storage i => i < rangeSize p.rngW
  | .notSelected | .mvol | .mroute | .mctrl | .fill => true

/-- The distance to the start of a range is less than its size. -/
theorem sub_lo_lt_rangeSize {r : Range} (h : inRange r a = true) : a - r.lo < rangeSize r := by
  rw [inRange_iff] at h
  simp only [rangeSize]
  omega

/-- An address below the size of a range, counted from its start, lies in it. -/
theorem inRange_lo_add {r : Range} (h : i < rangeSize r) : inRange r (r.lo + i) = true := by
  simp only [rangeSize] at h
  simp only [inRange_iff]
  omega

/-- Under any parameters an address is routed to what its block has. -/
theorem regionExists_route (p : Params) (a : Nat) : regionExists p (route p a) = true := by
  unfold route
  split_ifs with out g1 g2 g3 g4 mvol mroute mctrl storage
  · rfl
  · exact decide_eq_true (sub_lo_lt_rangeSize g1)
  · exact decide_eq_true (sub_lo_lt_rangeSize g2)
  · exact decide_eq_true (sub_lo_lt_rangeSize g3)
  · exact decide_eq_true (sub_lo_lt_rangeSize g4)
  · rfl
  · rfl
  · rfl
  · exact decide_eq_true (sub_lo_lt_rangeSize storage)
  · rfl

/-- An address is the one of the region it is routed to, where the region has one. -/
theorem addr_of_route {y : Region} {b : Nat} (e : route p a = y) (h : regionAddr p y = some b) : b = a := by
  subst e
  obtain same | out | fill := regionAddr_route p a
  · exact Option.some.inj (h.symm.trans same)
  · cases out ▸ h
  · cases fill ▸ h

/-- An address of a generator's block is routed to that generator: no earlier test takes it (R8). -/
theorem route_of_inRange_genRange (wf : p.wf = true) (h : inRange (genRange p g) a = true) :
    route p a = .gen g (a - (genRange p g).lo) := by
  have apart := Params.wf_apart wf
  have inside := apart.win _ (genRange_mem g) a h
  unfold route
  rw [if_neg inside]
  cases g <;> simp only [genRange] at h ⊢
  · simp [h]
  · simp [apart.d12 a h, h]
  · simp [apart.d13 a h, apart.d23 a h, h]
  · simp [apart.d14 a h, apart.d24 a h, apart.d34 a h, h]

theorem route_genAddr (wf : p.wf = true) (m : hasOffset p g off = true) : route p (genAddr p g off) = .gen g off := by
  have inBlock : inRange (genRange p g) (genAddr p g off) = true := inRange_lo_add ((hasOffset_iff g off).1 m)
  rw [route_of_inRange_genRange wf inBlock, genAddr, Nat.add_sub_cancel_left]

/-- The offset `i` of the master block is one of its three addresses. -/
theorem inRange_rngM_lo_add (wf : p.wf = true) (le : i ≤ 2) : inRange p.rngM (p.rngM.lo + i) = true := by
  have := Params.wf_master wf
  rw [inRange_iff]
  omega

/-- An address of the master block is in no generator's block (R8); the three tests tell its registers apart. -/
theorem route_master (wf : p.wf = true) (le : i ≤ 2) :
    route p (p.rngM.lo + i) = if i = 0 then .mvol else if i = 1 then .mroute else .mctrl := by
  have apart := Params.wf_apart wf
  have h := inRange_rngM_lo_add wf le
  have inside := apart.win p.rngM (by simp [Params.ranges]) _ h
  unfold route
  rw [if_neg inside, apart.d1m _ h, apart.d2m _ h, apart.d3m _ h, apart.d4m _ h]
  obtain rfl | rfl | rfl : i = 0 ∨ i = 1 ∨ i = 2 := by omega
  all_goals simp [addrMvol, addrMroute, addrMctrl]

theorem route_addrMvol (wf : p.wf = true) : route p (addrMvol p) = .mvol := route_master (i := 0) wf (by omega)

theorem route_addrMroute (wf : p.wf = true) : route p (addrMroute p) = .mroute := route_master (i := 1) wf (by omega)

theorem route_addrMctrl (wf : p.wf = true) : route p (addrMctrl p) = .mctrl := route_master (i := 2) wf (by omega)

/-- An address of the extended block passes every earlier test (R8). -/
theorem route_of_inRange_rngW (wf : p.wf = true) (h : inRange p.rngW a = true) :
    route p a = .storage (a - p.rngW.lo) := by
  have apart := Params.wf_apart wf
  have inside := apart.win p.rngW (by simp [Params.ranges]) a h
  have notMaster : ∀ k ≤ 2, a ≠ p.rngM.lo + k := by
    rintro k le rfl
    exact absurd (apart.dmw _ h) (by simp [inRange_rngM_lo_add wf le])
  have notMvol : a ≠ addrMvol p := notMaster 0 (by omega)
  have notMroute : a ≠ addrMroute p := notMaster 1 (by omega)
  have notMctrl : a ≠ addrMctrl p := notMaster 2 (by omega)
  unfold route
  rw [if_neg inside, apart.d1w a h, apart.d2w a h, apart.d3w a h, apart.d4w a h]
  simp [notMvol, notMroute, notMctrl, h]

theorem route_storage (wf : p.wf = true) (lt : i < rangeSize p.rngW) : route p (p.rngW.lo + i) = .storage i := by
  rw [route_of_inRange_rngW wf (inRange_lo_add lt), Nat.add_sub_cancel_left]

/-- The fill address of `FILL.27` is told from the others by its number alone (log 22). -/
theorem isOtherFill_iff (a : Nat) : isOtherFill p a = true ↔ route p a = .fill ∧ a ≠ addrFill27 p := by
  simp [isOtherFill]

/-- Only an address outside the window is not selected (R142). -/
theorem inRange_win_of_route_ne (h : route p a ≠ .notSelected) : inRange p.win a = true := by
  have inside : ¬(a < p.win.lo ∨ p.win.hi < a) := fun out => h (if_pos out)
  rw [inRange_iff]
  omega

end Sys2Proof.Machine

/-! PROOFS. The command word (spec/30_encoding.md R71, R72, R79, R80). A word is one of the four operations of `Cmd`, and
an operation asks for an instruction exactly if that instruction exists and is written as the operation. -/

namespace Sys2Proof

open Machine
open Laws.AddressInWindow (InWindow)

variable {p : Params} {w a off : Nat} {d : Byte} {g : GenId} {i : Instr} {c : Cmd}

/-- The fields of the word are those of the operation (R71); `CYCLE` and `RESET` use `op` alone, `RD` no `data` (R72). -/
def Cmd.Fields (p : Params) (w : Nat) : Cmd → Prop
  | .cycle => cmdOp p w = 0
  | .reset => cmdOp p w = 1
  | .rd a => cmdOp p w = 2 ∧ cmdAddr p w = a
  | .wr a d => cmdOp p w = 3 ∧ cmdAddr p w = a ∧ cmdData w = d

/-- What the operation asks for (R79, R80). -/
def Cmd.command (p : Params) : Cmd → Command
  | .cycle => .instr .cycle
  | .reset => .instr .reset
  | .rd a => decodeRd p a
  | .wr a d => decodeWr p a d

theorem cmdOp_lt (p : Params) (w : Nat) : cmdOp p w < 4 := Nat.mod_lt _ (by omega)

/-- Every word is a word of one of the four operations (R72). -/
theorem Cmd.exists_fields (p : Params) (w : Nat) : ∃ c : Cmd, c.Fields p w := by
  have lt := cmdOp_lt p w
  obtain op | op | op | op : cmdOp p w = 0 ∨ cmdOp p w = 1 ∨ cmdOp p w = 2 ∨ cmdOp p w = 3 := by omega
  · exact ⟨.cycle, op⟩
  · exact ⟨.reset, op⟩
  · exact ⟨.rd (cmdAddr p w), op, rfl⟩
  · exact ⟨.wr (cmdAddr p w) (cmdData w), op, rfl, rfl⟩

/-- The decoder answers what the operation in the word's fields asks for. -/
theorem decode_of_fields (lt : w < 2 ^ cmdBits p) (h : c.Fields p w) : decode p w = .ok (c.command p) := by
  rw [decode, if_pos lt]
  cases c with
  | cycle => rw [show cmdOp p w = 0 from h]; rfl
  | reset => rw [show cmdOp p w = 1 from h]; rfl
  | rd a =>
    obtain ⟨op, rfl⟩ := h
    rw [op]
    rfl
  | wr a d =>
    obtain ⟨op, rfl, rfl⟩ := h
    rw [op]
    rfl

theorem decode_too_long (le : 2 ^ cmdBits p ≤ w) : decode p w = .error .notACommandWord := if_neg (by omega)

theorem lt_of_decode_ok {x : Command} (h : decode p w = .ok x) : w < 2 ^ cmdBits p := by
  by_contra long
  cases (decode_too_long (by omega)).symm.trans h

/-- The canonical word of an operation at an address of the window has its fields (R71, R72). -/
theorem fields_encodeCmd (wf : p.wf = true) (h : InWindow p c) :
    encodeCmd p c < 2 ^ cmdBits p ∧ c.Fields p (encodeCmd p c) := by
  have addr_lt : ∀ a, inRange p.win a = true → a < 2 ^ p.addrBits := fun a inside =>
    ((inRange_iff _ a).1 inside).2.trans_lt (Params.wf_window wf).2
  cases c with
  | cycle => exact ⟨Nat.two_pow_pos _, by simp [encodeCmd, Cmd.Fields, cmdOp]⟩
  | reset =>
    have shorter : p.addrBits + 8 < cmdBits p := by simp [cmdBits]
    exact ⟨Nat.pow_lt_pow_right (by omega) shorter, by simp [encodeCmd, Cmd.Fields, cmdOp]⟩
  | rd a => exact cmdFields_rd a (addr_lt a h)
  | wr a d => exact cmdFields_wr a d (addr_lt a h)

/-! What an access asks for, by the region of its address. -/

theorem rdGenRow_eq_some (h : rdGenRow g off = some i) :
    i.wf p = hasOffset p g off ∧ i.cmd p = some (.rd (genAddr p g off)) := by
  unfold rdGenRow at h
  split at h <;> cases h <;> exact ⟨rfl, rfl⟩

theorem wrGenRow_eq_some (h : wrGenRow g off d = some i) :
    i.wf p = hasOffset p g off ∧ i.cmd p = some (.wr (genAddr p g off) d) := by
  unfold wrGenRow at h
  split at h <;> cases h <;> exact ⟨rfl, rfl⟩

theorem decodeRd_genAddr (wf : p.wf = true) (m : hasOffset p g off = true) (row : rdGenRow g off = some i) :
    decodeRd p (genAddr p g off) = .instr i := by
  simp [decodeRd, route_genAddr wf m, row]

theorem decodeWr_genAddr (wf : p.wf = true) (m : hasOffset p g off = true) (row : wrGenRow g off d = some i) :
    decodeWr p (genAddr p g off) d = .instr i := by
  simp [decodeWr, route_genAddr wf m, row]

/-- An instruction that exists and is written as a `RD` is what that `RD` asks for. -/
theorem decodeRd_of_cmd (wf : p.wf = true) (iwf : i.wf p = true) (h : i.cmd p = some (.rd a)) :
    decodeRd p a = .instr i := by
  cases i with
  | rdG10 | rdG11 | rdG12 | rdG13 | rdG14 | rdG20 | rdG21 | rdG22 | rdG23 | rdG24
  | rdG30 | rdG31 | rdG32 | rdG33 | rdG34 | rdG40 | rdG41 | rdG42 | rdG43 | rdG44 =>
    cases h
    exact decodeRd_genAddr wf iwf rfl
  | rdMvol => cases h; simp [decodeRd, route_addrMvol wf]
  | rdMroute => cases h; simp [decodeRd, route_addrMroute wf]
  | rdMctrl => cases h; simp [decodeRd, route_addrMctrl wf]
  | rdFill27 =>
    cases h
    have fill : route p (addrFill27 p) = .fill := beq_iff_eq.1 iwf
    simp [decodeRd, fill]
  | rdFill28 b =>
    cases h
    obtain ⟨fill, other⟩ := (isOtherFill_iff a).1 iwf
    simp [decodeRd, fill, other]
  | rdW k =>
    cases h
    simp [decodeRd, route_storage wf (of_decide_eq_true iwf)]
  | _ => cases h

/-- An instruction that exists and is written as a `WR` is what that `WR` asks for. -/
theorem decodeWr_of_cmd (wf : p.wf = true) (iwf : i.wf p = true) (h : i.cmd p = some (.wr a d)) :
    decodeWr p a d = .instr i := by
  cases i with
  | wrG10 | wrG11 | wrG12 | wrG13 | wrG14 | wrG20 | wrG21 | wrG22 | wrG23 | wrG24
  | wrG30 | wrG31 | wrG32 | wrG33 | wrG34 | wrG40 | wrG41 | wrG42 | wrG43 | wrG44 =>
    cases h
    exact decodeWr_genAddr wf iwf rfl
  | wrMvol => cases h; simp [decodeWr, route_addrMvol wf]
  | wrMroute => cases h; simp [decodeWr, route_addrMroute wf]
  | wrMctrl => cases h; simp [decodeWr, route_addrMctrl wf]
  | wrFill27 =>
    cases h
    have fill : route p (addrFill27 p) = .fill := beq_iff_eq.1 iwf
    simp [decodeWr, fill]
  | wrFill28 b =>
    cases h
    obtain ⟨fill, other⟩ := (isOtherFill_iff a).1 iwf
    simp [decodeWr, fill, other]
  | wrW k =>
    cases h
    simp [decodeWr, route_storage wf (of_decide_eq_true iwf)]
  | _ => cases h

/-- What a `RD` asks for, if it is an instruction, exists and is written as that `RD`. -/
theorem cmd_of_decodeRd (h : decodeRd p a = .instr i) : i.wf p = true ∧ i.cmd p = some (.rd a) := by
  have exist := regionExists_route p a
  unfold decodeRd at h
  generalize e : route p a = y at h exist
  cases y with
  | notSelected => cases h
  | gen g off =>
    obtain rfl : genAddr p g off = a := addr_of_route e rfl
    dsimp only at h
    split at h
    next row =>
      cases h
      obtain ⟨iwf, written⟩ := rdGenRow_eq_some (p := p) row
      exact ⟨iwf.trans exist, written⟩
    next => cases h
  | mvol | mroute | mctrl =>
    cases h
    obtain rfl := addr_of_route e rfl
    exact ⟨rfl, rfl⟩
  | storage k =>
    cases h
    obtain rfl : p.rngW.lo + k = a := addr_of_route e rfl
    exact ⟨exist, rfl⟩
  | fill =>
    dsimp only at h
    split at h
    next atFill27 =>
      cases h
      exact ⟨beq_iff_eq.2 (atFill27 ▸ e), congrArg (some <| Cmd.rd ·) atFill27.symm⟩
    next other =>
      cases h
      exact ⟨(isOtherFill_iff a).2 ⟨e, other⟩, rfl⟩

/-- What a `WR` asks for, if it is an instruction, exists and is written as that `WR`. -/
theorem cmd_of_decodeWr (h : decodeWr p a d = .instr i) : i.wf p = true ∧ i.cmd p = some (.wr a d) := by
  have exist := regionExists_route p a
  unfold decodeWr at h
  generalize e : route p a = y at h exist
  cases y with
  | notSelected => cases h
  | gen g off =>
    obtain rfl : genAddr p g off = a := addr_of_route e rfl
    dsimp only at h
    split at h
    next row =>
      cases h
      obtain ⟨iwf, written⟩ := wrGenRow_eq_some (p := p) row
      exact ⟨iwf.trans exist, written⟩
    next => cases h
  | mvol | mroute | mctrl =>
    cases h
    obtain rfl := addr_of_route e rfl
    exact ⟨rfl, rfl⟩
  | storage k =>
    cases h
    obtain rfl : p.rngW.lo + k = a := addr_of_route e rfl
    exact ⟨exist, rfl⟩
  | fill =>
    dsimp only at h
    split at h
    next atFill27 =>
      cases h
      exact ⟨beq_iff_eq.2 (atFill27 ▸ e), congrArg (some <| Cmd.wr · d) atFill27.symm⟩
    next other =>
      cases h
      exact ⟨(isOtherFill_iff a).2 ⟨e, other⟩, rfl⟩

/-- An operation asks for an instruction exactly if the instruction exists and is written as the operation. -/
theorem Cmd.command_eq_instr_iff (wf : p.wf = true) :
    c.command p = .instr i ↔ i.wf p = true ∧ i.cmd p = some c := by
  cases c with
  | cycle => cases i <;> simp [Cmd.command, Instr.cmd, Instr.wf]
  | reset => cases i <;> simp [Cmd.command, Instr.cmd, Instr.wf]
  | rd a => exact ⟨cmd_of_decodeRd, fun ⟨iwf, written⟩ => decodeRd_of_cmd wf iwf written⟩
  | wr a d => exact ⟨cmd_of_decodeWr, fun ⟨iwf, written⟩ => decodeWr_of_cmd wf iwf written⟩

/-- An operation that asks for an instruction addresses the window (R142). -/
theorem inWindow_of_command (h : c.command p = .instr i) : InWindow p c := by
  cases c with
  | cycle | reset => trivial
  | rd a => exact inRange_win_of_route_ne fun out => by simp [Cmd.command, decodeRd, out] at h
  | wr a d => exact inRange_win_of_route_ne fun out => by simp [Cmd.command, decodeWr, out] at h

/-- Settles O3: the instruction's word has the fields of its operation, and the operation asks for the instruction. -/
theorem decodeOfEncode : Obligations.DecodeOfEncode := by
  intro p i w wf iwf h
  obtain ⟨c, written, rfl⟩ := Option.map_eq_some_iff.1 h
  have asks : c.command p = .instr i := (Cmd.command_eq_instr_iff wf).2 ⟨iwf, written⟩
  obtain ⟨lt, fields⟩ := fields_encodeCmd wf (inWindow_of_command asks)
  rw [decode_of_fields lt fields, asks]

/-- Settles O4: the operation in the word's fields asks for the decoded instruction, so the instruction is written as it. -/
theorem decodedFieldsAreTheWordsFields : Obligations.DecodedFieldsAreTheWordsFields := by
  intro p w i wf h
  obtain ⟨c, fields⟩ := Cmd.exists_fields p w
  have asks : c.command p = .instr i := Except.ok.inj ((decode_of_fields (lt_of_decode_ok h) fields).symm.trans h)
  obtain ⟨iwf, written⟩ := (Cmd.command_eq_instr_iff wf).1 asks
  refine ⟨iwf, ?_⟩
  rw [written]
  cases c <;> exact fields

/-- Settles O5: each clause is the decoder's answer for one operation of the word. -/
theorem everyCommandWordDecodes : Obligations.EveryCommandWordDecodes := by
  refine ⟨fun p w => ⟨fun lt => ⟨?_, ?_, ?_, ?_, cmdOp_lt p w⟩, decode_too_long⟩, rfl, rfl⟩
  · exact fun op => decode_of_fields (c := .cycle) lt op
  · exact fun op => decode_of_fields (c := .reset) lt op
  · exact fun op => decode_of_fields (c := .rd (cmdAddr p w)) lt ⟨op, rfl⟩
  · exact fun op => decode_of_fields (c := .wr (cmdAddr p w) (cmdData w)) lt ⟨op, rfl, rfl⟩

/-- Settles O2: the decoder runs on each of the words. -/
theorem writtenWordsDecode : Obligations.WrittenWordsDecode := by
  unfold Obligations.WrittenWordsDecode
  and_intros <;> rfl

/-! ### Format EVT -/

theorem firesLen_iff (q : BitVec 3) : firesLen q = true ↔ q ∈ [0, 2, 4, 6] := by decide +revert
theorem firesSwp_iff (q : BitVec 3) : firesSwp q = true ↔ q ∈ [2, 6] := by decide +revert
theorem firesEnv_iff (q : BitVec 3) : firesEnv q = true ↔ q = 7 := by decide +revert

/-- An EVT word fires an event exactly if the event's decoder fires on it (R70). -/
theorem mem_decodeEvt_iff (i : Instr) (q : BitVec 3) : i ∈ decodeEvt q ↔
    (i = .clkLen ∧ firesLen q = true) ∨ (i = .clkSwp ∧ firesSwp q = true) ∨ (i = .clkEnv ∧ firesEnv q = true) := by
  simp [decodeEvt, and_comm]

/-- The encoder lists for an event the words on which its decoder fires. -/
theorem mem_encodeEvt_iff (i : Instr) (q : BitVec 3) : q ∈ encodeEvt i ↔ i ∈ decodeEvt q := by
  rw [mem_decodeEvt_iff, firesLen_iff, firesSwp_iff, firesEnv_iff]
  cases i <;> simp [encodeEvt]

/-- Settles O1: each decoder's phases, the eight rows, and the encoder's lists. -/
theorem eventDecodersMatchTheTable : Obligations.EventDecodersMatchTheTable := by
  refine ⟨fun q => ⟨?_, ?_, ?_⟩, rfl, rfl, rfl, rfl, rfl, rfl, rfl, rfl, fun q i => mem_encodeEvt_iff i q⟩
  · simp [mem_decodeEvt_iff, firesLen_iff]
  · simp [mem_decodeEvt_iff, firesSwp_iff]
  · simp [mem_decodeEvt_iff, firesEnv_iff]

end Sys2Proof

/-! PROOFS. A step runs the instruction of its command word (spec/60_exceptions.md R241, spec/70_reset_and_hazards.md
R260). -/

namespace Sys2Proof.Machine

variable {s : State} {w : Nat} {i : Instr}

/-- A word that decodes to an instruction runs it, if an access finds the context suspended (R61). -/
theorem runCommand_of_decode (decoded : decode s.par w = .ok (.instr i))
    (lawful : i.isAccess = true → s.suspended = true) : runCommand w s = exec i s := by
  rw [runCommand, decoded]
  exact issue_lawful (.instr i) lawful

/-- Settles O8: without a host fault the step is the host's move; after one only a `RESET` runs, and it is next. -/
theorem stepRunsTheDecodedInstruction : Obligations.StepRunsTheDecodedInstruction := by
  intro s w rest i ok next decoded lawful runs
  obtain sound | ⟨c, fault⟩ := Option.eq_none_or_eq_some s.hostFault
  · rw [step_of_pending ok sound next]
    exact runCommand_of_decode (s := { s with pending := rest }) decoded lawful
  · obtain rfl : i = .reset := runs.resolve_left (by simp [fault])
    have resets : resetNext s = true := (resetNext_iff s).2 ⟨w, rest, next, decoded⟩
    rw [step_faulted ok fault, if_pos resets, makeMove_reset next decoded]

end Sys2Proof.Machine

/-! PROOFS. Lists of operations (spec/30_encoding.md R84) and the events of the Frame Sequencer
(spec/40_frame_sequencer.md R91 to R95). -/

namespace Sys2Proof.Machine

variable {s t : State} {i : Instr} {f : State → State}

theorem runInstrs_cons (is : List Instr) (h : exec i s = .next t) : runInstrs (i :: is) s = runInstrs is t := by
  rw [runInstrs, h]

theorem runInstrs_append {is : List Instr} (js : List Instr) (h : runInstrs is s = .next t) :
    runInstrs (is ++ js) s = runInstrs js t := by
  induction is generalizing s with
  | nil => cases h; rfl
  | cons i is ih =>
    cases e : exec i s with
    | next u =>
      rw [runInstrs_cons _ e] at h
      rw [List.cons_append, runInstrs_cons _ e, ih h]
    | fault r => simp [runInstrs, e] at h
    | refused r => simp [runInstrs, e] at h

/-- An operation that always completes, repeated, is the iterate of what it does. -/
theorem runInstrs_replicate (h : ∀ s, exec i s = .next (f s)) (n : Nat) (s : State) :
    runInstrs (List.replicate n i) s = .next (f^[n] s) := by
  induction n generalizing s with
  | zero => rfl
  | succ n ih => rw [List.replicate_succ, runInstrs_cons _ (h s), ih, Function.iterate_succ_apply]

theorem runInstrs_ite (c : Bool) (h : exec i s = .next t) :
    runInstrs (if c then [i] else []) s = .next (if c then t else s) := by
  cases c
  · rfl
  · exact runInstrs_cons [] h

/-- `CLK_LEN` as one update of the state (R93). -/
theorem clkLen_eq (s : State) : clkLen s = { s with
    gen1 := genApply s.par .g1 .clockLength s.gen1, gen2 := genApply s.par .g2 .clockLength s.gen2,
    gen3 := genApply s.par .g3 .clockLength s.gen3, gen4 := genApply s.par .g4 .clockLength s.gen4,
    trace := s.trace ++ [⟨.g1, .clockLength⟩, ⟨.g2, .clockLength⟩, ⟨.g3, .clockLength⟩, ⟨.g4, .clockLength⟩] } := by
  simp [clkLen, callGen, logCall, setGen, getGen]

/-- `CLK_ENV` as one update of the state (R95). -/
theorem clkEnv_eq (s : State) : clkEnv s = { s with
    gen1 := genApply s.par .g1 .clockEnvelope s.gen1, gen2 := genApply s.par .g2 .clockEnvelope s.gen2,
    gen4 := genApply s.par .g4 .clockEnvelope s.gen4,
    trace := s.trace ++ [⟨.g1, .clockEnvelope⟩, ⟨.g2, .clockEnvelope⟩, ⟨.g4, .clockEnvelope⟩] } := by
  simp [clkEnv, callGen, logCall, setGen, getGen]

/-- Settles O15: each event is its calls, one generator after the other. -/
theorem eventsCallTheirGenerators : Obligations.EventsCallTheirGenerators := by
  refine fun s => ⟨?_, rfl, ?_⟩
  · rw [← clkLen_eq]
    rfl
  · rw [← clkEnv_eq]
    rfl

/-- The decoded events, run in their order, are lines 2 to 4 of `DECODE_AND_DISPATCH` (R92). Each line decodes the value
of `phase` that line 1 read, which no event changes. -/
theorem runInstrs_decodeEvt (s : State) : runInstrs (decodeEvt s.phase) s = .next (dispatchEvents s) := by
  have swept : ∀ u, runInstrs (if firesSwp s.phase then [.clkSwp] else []) u
      = .next (if firesSwp s.phase then clkSwp u else u) := fun u => runInstrs_ite _ rfl
  have enveloped : ∀ u, runInstrs (if firesEnv s.phase then [.clkEnv] else []) u
      = .next (if firesEnv s.phase then clkEnv u else u) := fun u => runInstrs_ite _ rfl
  rw [decodeEvt, List.append_assoc, runInstrs_append _ (runInstrs_ite (firesLen s.phase) rfl),
    runInstrs_append _ (swept _), enveloped]
  rfl

/-- Outside a tick `SEQ` only counts (R91). -/
theorem seqStep_of_not_tick (h : s.stage ≠ 0) : seqStep s = { s with stage := (s.stage + 1) % s.par.seqDiv } := if_neg h

/-- In a tick it counts and dispatches (R91). -/
theorem seqStep_of_tick (h : s.stage = 0) :
    seqStep s = decodeAndDispatch { s with stage := (s.stage + 1) % s.par.seqDiv } := if_pos h

/-- The phase counts modulo 8 (R92 line 5). -/
theorem phase_succ (q : BitVec 3) : q + 1 = BitVec.ofNat 3 ((q.toNat + 1) % 8) := by decide +revert

/-- Settles O16: the state before the step of `phase` is the one the decoded events give. -/
theorem seqDividesAndDispatches : Obligations.SeqDividesAndDispatches := by
  refine fun s => ⟨fun noTick => congrArg _ (seqStep_of_not_tick noTick), fun tick => ?_⟩
  refine ⟨_, runInstrs_decodeEvt { s with stage := (s.stage + 1) % s.par.seqDiv }, by simp, by simp, ?_⟩
  rw [← phase_succ]
  exact congrArg _ (seqStep_of_tick tick)

end Sys2Proof.Machine

/-! PROOFS. The schedule of the events (spec/40_frame_sequencer.md R97): what a number of cycles makes of the divider and
the phase, and on which cycles each event fires. -/

namespace Sys2Proof.Machine

variable {s : State} {d : Nat}

theorem iterate_cycleStep_par (c : Nat) (s : State) : (cycleStep^[c] s).par = s.par := by
  induction c with
  | zero => rfl
  | succ c ih => rw [Function.iterate_succ_apply', cycleStep_par, ih]

/-- The divider counts the cycles modulo SEQ_DIV (R91). -/
theorem iterate_cycleStep_stage (stage : s.stage = 0) (c : Nat) :
    (cycleStep^[c] s).stage = c % s.par.seqDiv := by
  induction c with
  | zero => simpa using stage
  | succ c ih => rw [Function.iterate_succ_apply', cycleStep_stage, ih, iterate_cycleStep_par, Nat.mod_add_mod]

/-- The number of the first `c` cycles that tick: those whose number `SEQ_DIV` divides. -/
def ticks (d c : Nat) : Nat := (c + (d - 1)) / d

theorem ticks_succ (pos : 1 ≤ d) (c : Nat) : ticks d (c + 1) = ticks d c + if c % d = 0 then 1 else 0 := by
  have next : c + (d - 1) + 1 = c + d := by omega
  rw [ticks, Nat.add_right_comm, Nat.succ_div, next, ← ticks]
  simp [Nat.dvd_iff_mod_eq_zero]

/-- At a tick the number of the ticks so far is the quotient. -/
theorem ticks_of_mod_eq_zero (pos : 1 ≤ d) {c : Nat} (tick : c % d = 0) : ticks d c = c / d := by
  rw [ticks, Nat.add_div_of_dvd_right (Nat.dvd_of_mod_eq_zero tick), Nat.div_eq_of_lt (by omega : d - 1 < d), Nat.add_zero]

/-- The phase counts the ticks modulo 8 (R92). -/
theorem iterate_cycleStep_phase (stage : s.stage = 0) (phase : s.phase = 0) (pos : 1 ≤ s.par.seqDiv) (c : Nat) :
    (cycleStep^[c] s).phase = BitVec.ofNat 3 (ticks s.par.seqDiv c) := by
  induction c with
  | zero => simpa [ticks_of_mod_eq_zero pos (Nat.zero_mod _)] using phase
  | succ c ih =>
    rw [Function.iterate_succ_apply', cycleStep_phase, iterate_cycleStep_stage stage, ih, ticks_succ pos]
    split
    · exact (BitVec.ofNat_add ..).symm
    · rfl

/-! The calls of one cycle. -/

/-- The calls of one cycle, as R215 lists them. -/
def cycleCalls (stage : Nat) (q : BitVec 3) : List GenCall :=
  eventCalls stage q ++ [⟨.g1, .run⟩, ⟨.g2, .run⟩, ⟨.g3, .run⟩, ⟨.g4, .run⟩]
    ++ [⟨.g1, .sample⟩, ⟨.g2, .sample⟩, ⟨.g3, .sample⟩, ⟨.g4, .sample⟩]

theorem cycleStep_trace_eq (s : State) : (cycleStep s).trace = s.trace ++ cycleCalls s.stage s.phase := by
  rw [cycleStep_trace, cycleCalls, List.append_assoc, List.append_assoc, List.append_assoc]

section
variable (stage : Nat) (q : BitVec 3) (g : GenId)

theorem clockLength_mem_cycleCalls : ⟨g, .clockLength⟩ ∈ cycleCalls stage q ↔ stage = 0 ∧ firesLen q = true := by
  by_cases tick : stage = 0
  · cases g <;> simp [cycleCalls, eventCalls, tick]
  · simp [cycleCalls, eventCalls, tick]

theorem clockSweep_mem_cycleCalls :
    ⟨g, .clockSweep⟩ ∈ cycleCalls stage q ↔ g = .g1 ∧ stage = 0 ∧ firesSwp q = true := by
  by_cases tick : stage = 0
  · cases g <;> simp [cycleCalls, eventCalls, tick]
  · simp [cycleCalls, eventCalls, tick]

theorem clockEnvelope_mem_cycleCalls :
    ⟨g, .clockEnvelope⟩ ∈ cycleCalls stage q ↔ g ≠ .g3 ∧ stage = 0 ∧ firesEnv q = true := by
  by_cases tick : stage = 0
  · cases g <;> simp [cycleCalls, eventCalls, tick]
  · simp [cycleCalls, eventCalls, tick]

end

/-! The events by the number of the tick. -/

theorem firesLen_ofNat (n : Nat) : firesLen (BitVec.ofNat 3 n) = true ↔ n % 2 = 0 := by
  have word : ∀ q : BitVec 3, firesLen q = true ↔ q.toNat % 2 = 0 := by decide
  rw [word, BitVec.toNat_ofNat, Nat.mod_mod_of_dvd _ (by decide)]

theorem firesSwp_ofNat (n : Nat) : firesSwp (BitVec.ofNat 3 n) = true ↔ n % 4 = 2 := by
  have word : ∀ q : BitVec 3, firesSwp q = true ↔ q.toNat % 4 = 2 := by decide
  rw [word, BitVec.toNat_ofNat, Nat.mod_mod_of_dvd _ (by decide)]

theorem firesEnv_ofNat (n : Nat) : firesEnv (BitVec.ofNat 3 n) = true ↔ n % 8 = 7 := by
  have word : ∀ q : BitVec 3, firesEnv q = true ↔ q.toNat % 8 = 7 := by decide
  rw [word, BitVec.toNat_ofNat, Nat.mod_mod_of_dvd _ (by decide)]

/-- A cycle ticks, as number `r` of every `m` ticks, exactly if it is number `r * d` of every `m * d` cycles. -/
theorem tick_mod_iff (pos : 1 ≤ d) (c m r : Nat) : c % d = 0 ∧ c / d % m = r ↔ c % (m * d) = r * d := by
  rw [Nat.mul_comm m, Nat.mod_mul, Nat.mul_comm r]
  constructor
  · rintro ⟨tick, rfl⟩
    rw [tick, Nat.zero_add]
  · intro h
    have tick : c % d = 0 := by simpa using congrArg (· % d) h
    rw [tick, Nat.zero_add] at h
    exact ⟨tick, Nat.eq_of_mul_eq_mul_left pos h⟩

/-- An event that fires on the tick `r` of every `m` fires on the cycle `r * SEQ_DIV` of every `m * SEQ_DIV`. -/
theorem iterate_cycleStep_fires_iff (stage : s.stage = 0) (phase : s.phase = 0) (pos : 1 ≤ s.par.seqDiv) (c : Nat)
    {fires : BitVec 3 → Bool} {m r : Nat} (h : ∀ n, fires (BitVec.ofNat 3 n) = true ↔ n % m = r) :
    (cycleStep^[c] s).stage = 0 ∧ fires (cycleStep^[c] s).phase = true
      ↔ c % (m * s.par.seqDiv) = r * s.par.seqDiv := by
  rw [← tick_mod_iff pos, iterate_cycleStep_stage stage, iterate_cycleStep_phase stage phase pos]
  refine and_congr_right fun tick => ?_
  rw [ticks_of_mod_eq_zero pos tick, h]

/-- Settles O18: `c` cycles from reset leave the divider at `c` modulo SEQ_DIV and the phase at the number of ticks, which
decide the events of the next cycle. -/
theorem sequencerSchedule : Obligations.SequencerSchedule := by
  intro s c stage phase pos
  have ran := runInstrs_replicate (i := .cycle) (f := cycleStep) (fun _ => rfl) c s
  refine ⟨_, _, _, ran, rfl, cycleStep_trace_eq _, iterate_cycleStep_stage stage c, fun tick => ?_, ?_, ?_, ?_⟩
  · rw [iterate_cycleStep_phase stage phase pos, ticks_of_mod_eq_zero pos tick]
  · intro g
    rw [clockLength_mem_cycleCalls, iterate_cycleStep_fires_iff stage phase pos c firesLen_ofNat, Nat.zero_mul]
  · intro g
    rw [clockSweep_mem_cycleCalls, iterate_cycleStep_fires_iff stage phase pos c firesSwp_ofNat]
  · intro g
    rw [clockEnvelope_mem_cycleCalls, iterate_cycleStep_fires_iff stage phase pos c firesEnv_ofNat]

end Sys2Proof.Machine

/-! PROOFS. What an instruction can write (spec/40_frame_sequencer.md R100, spec/10_state.md R22 to R30,
spec/42_dc_filter.md R135, spec/43_register_dispatcher.md R145). -/

namespace Sys2Proof.Machine

variable {s t u : State} {i : Instr}

/-- The step writes nothing but the generators, the values in flight, the read log and the call trace. -/
def GeneratorsOnly (s t : State) : Prop :=
  ∃ (g1 g2 g3 g4 : GenState) (mixed filtered : Triple) (readLog : List (Option Byte)) (trace : List GenCall),
    t = { s with gen1 := g1, gen2 := g2, gen3 := g3, gen4 := g4, mixed, filtered, readLog, trace }

theorem GeneratorsOnly.refl (s : State) : GeneratorsOnly s s := ⟨_, _, _, _, _, _, _, _, rfl⟩

theorem GeneratorsOnly.trans (h : GeneratorsOnly s t) (h' : GeneratorsOnly t u) : GeneratorsOnly s u := by
  obtain ⟨_, _, _, _, _, _, _, _, rfl⟩ := h
  obtain ⟨_, _, _, _, _, _, _, _, rfl⟩ := h'
  exact ⟨_, _, _, _, _, _, _, _, rfl⟩

variable (s)

theorem generatorsOnly_callGen (g : GenId) (op : GenOp) : GeneratorsOnly s (callGen g op s) := by
  cases g <;> exact ⟨_, _, _, _, _, _, _, _, rfl⟩

theorem generatorsOnly_callAll (gs : List GenId) (op : GenOp) : GeneratorsOnly s (callAll gs op s) := by
  induction gs generalizing s with
  | nil => exact .refl s
  | cons g gs ih => exact (generatorsOnly_callGen s g op).trans (ih _)

theorem generatorsOnly_logCall (g : GenId) (op : GenOp) : GeneratorsOnly s (logCall g op s) :=
  ⟨_, _, _, _, _, _, _, _, rfl⟩

theorem generatorsOnly_mixStep : GeneratorsOnly s (mixStep s) := by
  have logged : GeneratorsOnly s (logSamples s) :=
    (((generatorsOnly_logCall s _ _).trans (generatorsOnly_logCall _ _ _)).trans (generatorsOnly_logCall _ _ _)).trans
      (generatorsOnly_logCall _ _ _)
  exact logged.trans ⟨_, _, _, _, _, _, _, _, rfl⟩

theorem generatorsOnly_respond (v : Option Byte) : GeneratorsOnly s (respond v s) := ⟨_, _, _, _, _, _, _, _, rfl⟩

theorem generatorsOnly_readGenerator (g : GenId) (off : Nat) : GeneratorsOnly s (readGenerator g off s) :=
  ⟨_, _, _, _, _, _, _, _, rfl⟩

theorem generatorsOnly_readStorage (n : Nat) : GeneratorsOnly s (readStorage n s) := ⟨_, _, _, _, _, _, _, _, rfl⟩

/-- A call that the gate lets through or takes away (R143). -/
theorem generatorsOnly_gated_callGen (g : GenId) (op : GenOp) : GeneratorsOnly s (gated (callGen g op) s) := by
  obtain ⟨-, e⟩ | ⟨-, e⟩ := gated_cases s (callGen g op) <;> rw [e]
  · exact generatorsOnly_callGen s g op
  · exact .refl s

variable {s}

/-- What an instruction can do: the five operations that write more than generators, the three writes of the master block,
and for all others a step that leaves everything else as it is. -/
theorem exec_cases (h : exec i s = .next t) :
    GeneratorsOnly s t ∨ (i = .cycle ∧ t = cycleStep s) ∨ (i = .seq ∧ t = seqStep s) ∨ (i = .hpf ∧ t = hpfStep s)
      ∨ (i = .emit ∧ t = emitStep s) ∨ (i = .reset ∧ t = resetStep s)
      ∨ ∃ d, (i = .wrMvol d ∧ t = gated (fun s => { s with mvol := d }) s)
        ∨ (i = .wrMroute d ∧ t = gated (fun s => { s with mroute := d }) s) ∨ (i = .wrMctrl d ∧ t = setMenable d s) := by
  cases i with
  | clkLen | clkEnv | run => cases h; exact .inl (generatorsOnly_callAll ..)
  | clkSwp => cases h; exact .inl (generatorsOnly_callGen ..)
  | mix => cases h; exact .inl (generatorsOnly_mixStep s)
  | rdG10 | rdG11 | rdG12 | rdG13 | rdG14 | rdG20 | rdG21 | rdG22 | rdG23 | rdG24
  | rdG30 | rdG31 | rdG32 | rdG33 | rdG34 | rdG40 | rdG41 | rdG42 | rdG43 | rdG44 =>
    cases h
    exact .inl (generatorsOnly_readGenerator ..)
  | wrG10 | wrG11 | wrG12 | wrG13 | wrG14 | wrG20 | wrG21 | wrG22 | wrG23 | wrG24
  | wrG30 | wrG31 | wrG32 | wrG33 | wrG34 | wrG40 | wrG41 | wrG42 | wrG43 | wrG44 | wrW =>
    cases h
    exact .inl (generatorsOnly_gated_callGen ..)
  | rdW => cases h; exact .inl (generatorsOnly_readStorage ..)
  | rdMvol | rdMroute | rdMctrl | rdFill27 | rdFill28 => cases h; exact .inl (generatorsOnly_respond ..)
  | wrFill27 | wrFill28 => cases h; exact .inl (.refl s)
  | cycle | seq | hpf | emit | reset | wrMvol | wrMroute | wrMctrl => cases h; simp

/-- Settles O43: by what the instruction can do; each operation's own laws say which fields it leaves. -/
theorem whoMayWriteWhat : Obligations.WhoMayWriteWhat := by
  intro i s t h
  obtain ⟨_, _, _, _, _, _, _, _, rfl⟩ | ⟨rfl, rfl⟩ | ⟨rfl, rfl⟩ | ⟨rfl, rfl⟩ | ⟨rfl, rfl⟩ | ⟨rfl, rfl⟩
    | ⟨d, ⟨rfl, rfl⟩ | ⟨rfl, rfl⟩ | ⟨rfl, rfl⟩⟩ := exec_cases h
  · simp
  · simp
  · simp
  · simp
  · simp
  · simp [resetStep]
  · obtain ⟨-, e⟩ | ⟨-, e⟩ := gated_cases s (fun s => { s with mvol := d }) <;> simp [e]
  · obtain ⟨-, e⟩ | ⟨-, e⟩ := gated_cases s (fun s => { s with mroute := d }) <;> simp [e]
  · simp

end Sys2Proof.Machine

/-! PROOFS. The length counter over any number of length clocks (spec/40_frame_sequencer.md R93,
spec/44_generator_interface.md R180, R198). -/

namespace Sys2Proof.Machine

variable {p : Params} {g : GenId}

theorem iterate_clkLen_par (k : Nat) (s : State) : (clkLen^[k] s).par = s.par := by
  induction k with
  | zero => rfl
  | succ k ih => rw [Function.iterate_succ_apply', clkLen_par, ih]

/-- `k` length clocks clock each generator `k` times. -/
theorem getGen_iterate_clkLen (g : GenId) (k : Nat) (s : State) :
    getGen g (clkLen^[k] s) = (genApply s.par g .clockLength)^[k] (getGen g s) := by
  induction k with
  | zero => rfl
  | succ k ih => rw [Function.iterate_succ_apply', getGen_clkLen, ih, iterate_clkLen_par, Function.iterate_succ_apply']

theorem iterate_clockLength_refGen (k : Nat) (r : RefGen) :
    (genApply p g .clockLength)^[k] (.refGen r) = .refGen (refClockLength^[k] r) :=
  ((Function.Semiconj.iterate_right (f := GenState.refGen) (fun _ => rfl) k).eq r).symm

theorem iterate_clockLength_unknown (k : Nat) (c : ContractGen) :
    (genApply p g .clockLength)^[k] (.unknown c) = .unknown ((contractClockLength p g)^[k] c) :=
  ((Function.Semiconj.iterate_right (f := GenState.unknown) (fun _ => rfl) k).eq c).symm

section
variable {r : RefGen}

/-- A length clock writes the counter and the enable flag only (R198). -/
theorem iterate_refClockLength_frame (k : Nat) (r : RefGen) : refClockLength^[k] r
    = { r with len := (refClockLength^[k] r).len, active := (refClockLength^[k] r).active } := by
  induction k with
  | zero => rfl
  | succ k ih =>
    rw [Function.iterate_succ_apply']
    obtain ⟨-, e⟩ | ⟨-, -, e⟩ := refClockLength_cases (refClockLength^[k] r) <;> rw [e]
    · exact ih
    · rw [ih]

/-- A disabled RefGen, or one with a load of 0, ignores the length clock (R198). -/
theorem refClockLength_idle (h : r.active = false ∨ r.len = 0) : refClockLength r = r := by
  obtain ⟨-, e⟩ | ⟨on, ne, -⟩ := refClockLength_cases r
  · exact e
  · rcases h with off | zero
    · cases on.symm.trans off
    · exact absurd zero ne

/-- Any other counts down, and at 0 the length-limited mode disables it (R198). -/
theorem refClockLength_counts (on : r.active = true) (pos : 0 < r.len.toNat) :
    refClockLength r = { r with len := r.len - 1, active := !(r.len - 1 == 0 && r.lenMode) } := by
  obtain ⟨off | zero, -⟩ | ⟨-, -, e⟩ := refClockLength_cases r
  · cases on.symm.trans off
  · simp [zero] at pos
  · exact e

/-- A load of `N` leaves `N - k` after `k` length clocks, and an enabled RefGen is disabled by the `N`-th if its mode is
length-limited (R198). -/
theorem iterate_refClockLength (on : r.active = true) (pos : 1 ≤ r.len.toNat) (k : Nat) :
    (refClockLength^[k] r).lenMode = r.lenMode
      ∧ (refClockLength^[k] r).len.toNat = r.len.toNat - k
      ∧ ((refClockLength^[k] r).active = true ↔ (r.lenMode = true → k < r.len.toNat)) := by
  induction k with
  | zero => exact ⟨rfl, rfl, iff_of_true on fun _ => pos⟩
  | succ k ih =>
    rw [Function.iterate_succ_apply']
    generalize refClockLength^[k] r = r' at ih ⊢
    obtain ⟨mode, len, active⟩ := ih
    by_cases lt : k < r.len.toNat
    · rw [refClockLength_counts (active.2 fun _ => lt) (by omega)]
      have len_sub : (r'.len - 1).toNat = r.len.toNat - (k + 1) := by bv_omega
      have expires : r'.len - 1 = 0 ↔ r.len.toNat ≤ k + 1 := by
        rw [← BitVec.toNat_inj, len_sub]
        exact Nat.sub_eq_zero_iff_le
      refine ⟨mode, len_sub, ?_⟩
      simp only [mode, Bool.not_eq_true', Bool.and_eq_false_imp, beq_iff_eq, expires]
      cases r.lenMode <;> simp
    · have zero : r'.len = 0 := BitVec.eq_of_toNat_eq (len.trans (by simp; omega))
      rw [refClockLength_idle (.inr zero)]
      exact ⟨mode, by omega, active.trans (imp_congr_right fun _ => by omega)⟩

end

section
variable {c : ContractGen}

/-- An enabled generator whose counter is not above 0 takes what the contract leaves open (log 4). -/
theorem contractClockLength_atZero (on : c.active = true) (zero : ¬0 < c.ctl.len) :
    contractClockLength p g c = lengthAtZero p g c := by
  simp [contractClockLength, on, zero]

/-- A length-limited generator of unknown inside counts down to 0 and is disabled there (R180). -/
theorem iterate_contractClockLength_limited (on : c.active = true) (mode : c.ctl.lenMode = true) (pos : 1 ≤ c.ctl.len)
    (k : Nat) :
    ((contractClockLength p g)^[k] c).ctl.lenMode = true
      ∧ ((contractClockLength p g)^[k] c).ctl.len = c.ctl.len - k
      ∧ (((contractClockLength p g)^[k] c).active = true ↔ k < c.ctl.len) := by
  induction k with
  | zero => exact ⟨mode, rfl, iff_of_true on pos⟩
  | succ k ih =>
    rw [Function.iterate_succ_apply']
    generalize (contractClockLength p g)^[k] c = c' at ih ⊢
    obtain ⟨mode', len', active'⟩ := ih
    by_cases lt : k < c.ctl.len
    · rw [contractClockLength_counts _ _ _ (active'.2 lt) (by omega)]
      refine ⟨mode', by simp only [lengthDown, len']; omega, ?_⟩
      simp only [lengthDown, len', mode', Bool.and_true, Bool.not_eq_true', beq_eq_false_iff_ne]
      omega
    · rw [contractClockLength_disabled _ _ _ (Bool.eq_false_iff.2 (lt ∘ active'.1))]
      exact ⟨mode', by omega, active'.trans (by omega)⟩

/-- Without the mode it stays enabled, and it counts as long as the counter is above 0 (R180). -/
theorem iterate_contractClockLength_free (on : c.active = true) (mode : c.ctl.lenMode = false) (k : Nat) :
    ((contractClockLength p g)^[k] c).ctl.lenMode = false
      ∧ ((contractClockLength p g)^[k] c).active = true
      ∧ (k ≤ c.ctl.len → ((contractClockLength p g)^[k] c).ctl.len = c.ctl.len - k) := by
  induction k with
  | zero => exact ⟨mode, on, fun _ => rfl⟩
  | succ k ih =>
    rw [Function.iterate_succ_apply']
    generalize (contractClockLength p g)^[k] c = c' at ih ⊢
    obtain ⟨mode', on', len'⟩ := ih
    by_cases pos : 0 < c'.ctl.len
    · rw [contractClockLength_counts _ _ _ on' pos]
      refine ⟨mode', by simp [lengthDown, mode'], fun le => ?_⟩
      simp only [lengthDown, len' (by omega)]
      omega
    · rw [contractClockLength_atZero on' pos]
      refine ⟨mode', by simp [lengthAtZero, mode'], fun le => ?_⟩
      have := len' (by omega)
      omega

end

/-- Settles O49: `k` length clocks iterate the generator's own length clock, whose count is known for either kind. -/
theorem lengthCounterSilencesOnTime : Obligations.LengthCounterSilencesOnTime := by
  intro s g k
  have ran := runInstrs_replicate (i := .clkLen) (f := clkLen) (fun _ => rfl) k s
  have clocked := getGen_iterate_clkLen g k s
  refine ⟨fun r isRef => ?_, fun c isUnknown => ?_⟩
  · rw [isRef, iterate_clockLength_refGen] at clocked
    refine ⟨_, _, ran, clocked, iterate_refClockLength_frame k r, ?_, ?_, ?_, ?_⟩
    · exact fun off => Function.iterate_fixed (refClockLength_idle (.inl off)) k
    · exact fun _ zero => Function.iterate_fixed (refClockLength_idle (.inr zero)) k
    · intro on mode pos
      obtain ⟨-, len, active⟩ := iterate_refClockLength on pos k
      exact ⟨len, Bool.eq_iff_iff.2 (by simpa [mode] using active)⟩
    · intro on mode
      by_cases zero : r.len = 0
      · rw [Function.iterate_fixed (refClockLength_idle (.inr zero)), zero]
        exact ⟨(Nat.zero_sub k).symm, on⟩
      · have pos : 1 ≤ r.len.toNat := by bv_omega
        obtain ⟨-, len, active⟩ := iterate_refClockLength on pos k
        exact ⟨len, active.2 (by simp [mode])⟩
  · rw [isUnknown, iterate_clockLength_unknown] at clocked
    refine ⟨_, _, ran, clocked, ?_, ?_, ?_⟩
    · exact fun off => Function.iterate_fixed (contractClockLength_disabled _ _ _ off) k
    · intro on mode pos
      obtain ⟨-, len, active⟩ := iterate_contractClockLength_limited (p := s.par) (g := g) on mode pos k
      exact ⟨len, Bool.eq_iff_iff.2 (by simpa using active)⟩
    · exact fun on mode => (iterate_contractClockLength_free on mode k).2

end Sys2Proof.Machine

/-! PROOFS. The Mixer (spec/41_mixer.md): what `MIX` computes (R111, R113), what it does not read (R114, R118), and the
range of its result (R116). -/

namespace Sys2Proof.Machine

/-- `MIX` as one update of the state (R111). -/
theorem mixStep_eq (s : State) : mixStep s = { s with
    mixed := mixOf s.par s.mroute s.mvol (smp s)
    trace := s.trace ++ [⟨.g1, .sample⟩, ⟨.g2, .sample⟩, ⟨.g3, .sample⟩, ⟨.g4, .sample⟩] } := by
  simp [mixStep, logSamples, logCall]

/-- The volume fields of `mvol` are bits 6 to 4 and 2 to 0, which are the bits of the mask 0x77 (R27). -/
@[simp] theorem volL_and_mask (v : Byte) : volL (v &&& 0x77) = volL v := by
  have ones : (0x77 : Byte).extractLsb' 4 3 = BitVec.allOnes 3 := rfl
  rw [volL, BitVec.extractLsb'_and, ones, BitVec.and_allOnes, volL]

@[inherit_doc volL_and_mask, simp]
theorem volR_and_mask (v : Byte) : volR (v &&& 0x77) = volR v := by
  have ones : (0x77 : Byte).extractLsb' 0 3 = BitVec.allOnes 3 := rfl
  rw [volR, BitVec.extractLsb'_and, ones, BitVec.and_allOnes, volR]

/-- The mix reads no bit of `mvol` outside its volume fields (R118). -/
theorem mixOf_congr_mvol {v w : Byte} (h : v &&& 0x77 = w &&& 0x77) (p : Params) (mroute : Byte) (x : GenId → Int) :
    mixOf p mroute v x = mixOf p mroute w x := by
  have left : volL v = volL w := by rw [← volL_and_mask v, h, volL_and_mask]
  have right : volR v = volR w := by rw [← volR_and_mask v, h, volR_and_mask]
  rw [mixOf, mixOf, left, right]

/-- Settles O20: bit `3 + g` of `mroute` routes generator `g` to the left and bit `g - 1` to the right. -/
theorem mixSumsAndScales : Obligations.MixSumsAndScales :=
  fun s => congrArg Host.Outcome.next (mixStep_eq s)

/-- Settles O21: the samples are the generators', of which neither `menable` nor `mvol` is part, and the volumes are equal. -/
theorem mixIgnoresGateAndSpareBits : Obligations.MixIgnoresGateAndSpareBits := by
  intro s b v fields
  have samples : smp { s with menable := b, mvol := v } = smp s := rfl
  refine ⟨mixStep s, mixStep { s with menable := b, mvol := v }, rfl, rfl, ?_⟩
  rw [mixStep_mixed, mixStep_mixed, samples]
  exact mixOf_congr_mvol fields ..

/-- Settles O22: accepted parameters bound every sample, and the bounded sums stay in the range of the scales. -/
theorem mixStaysInSixteenBits : Obligations.MixStaysInSixteenBits := by
  intro s ok
  obtain ⟨-, fits⟩ := (paramsOk_iff s).1 ok
  refine ⟨fun g => genSample_le (fits g), mixStep s, rfl, ?_⟩
  rw [mixStep_mixed]
  exact mix_inInt16 ok

end Sys2Proof.Machine

/-! PROOFS. The DC-blocking filter (spec/42_dc_filter.md): the approach to the input (R131), the bounds of R130 and the
register width that follows from them, silence (R132), and one `HPF` on every channel (R126, R127). -/

namespace Sys2Proof.Machine

variable {p : Params}

theorem shr_le_shr {x y : Int} (h : x ≤ y) (n : Nat) : shr x n ≤ shr y n :=
  Int.ediv_le_ediv (Int.natCast_pos.2 (Nat.two_pow_pos n)) h

theorem abs_shr_le (x : Int) (n : Nat) : |shr x n| ≤ |x| := Int.abs_ediv_le_abs x _

/-- A 16-bit sample has an absolute value of at most `2^15` (R9). -/
theorem abs_le_of_inInt16 {x : Int} (h : InInt16 x) : |x| ≤ 32768 := by
  obtain ⟨lo, hi⟩ := h
  exact abs_le.2 ⟨lo, by omega⟩

/-! The approach to the target (R131). -/

/-- Shifted right, the target is the shifted sample: the bits that the accumulator's shift drops stay dropped. -/
theorem shr_hpfTarget (p : Params) (bias x : Int) : shr (hpfTarget p bias x) p.shiftA = shl x p.shiftA := by
  have ne : ((2 ^ p.shiftA : Nat) : Int) ≠ 0 := by positivity
  rw [hpfTarget, shr, shl, pow_two, ← mul_assoc, Int.add_comm, Int.add_mul_ediv_right _ _ ne,
    Int.ediv_eq_zero_of_lt (Int.emod_nonneg _ ne) (Int.emod_lt_of_pos _ (by positivity)), zero_add]

/-- An accumulator that is not above a target of the input has a `d` that is not negative (R131). -/
theorem hpfDiff_nonneg_of_le {b bias x : Int} (h : b ≤ hpfTarget p bias x) : 0 ≤ hpfDiff p b x := by
  rw [hpfDiff, ← shr_hpfTarget p bias]
  exact sub_nonneg.2 (shr_le_shr h _)

/-- One that is not below it has a `d` that is not positive (R131). -/
theorem hpfDiff_nonpos_of_ge {b bias x : Int} (h : hpfTarget p bias x ≤ b) : hpfDiff p b x ≤ 0 := by
  rw [hpfDiff, ← shr_hpfTarget p bias]
  exact sub_nonpos.2 (shr_le_shr h _)

/-- Settles O28: the new accumulator lies between the old one and the target, so it does not pass the target. -/
theorem accumulatorMovesTowardTheInput : Obligations.AccumulatorMovesTowardTheInput := by
  intro p bias x kpos kle
  obtain ⟨rising, falling⟩ := hpfBias_between p bias x kpos kle
  constructor
  · intro h
    obtain ⟨lo, hi⟩ := rising h
    exact ⟨lo, hpfDiff_nonneg_of_le hi⟩
  · intro h
    obtain ⟨hi, lo⟩ := falling h
    exact ⟨hi, hpfDiff_nonpos_of_ge lo⟩

/-! The bounds of R130. -/

/-- The shifted sample is within `2^15 * 2^SHIFT_A`. -/
theorem abs_shl_le {x : Int} (hx : InInt16 x) (n : Nat) : |shl x n| ≤ 32768 * ((2 ^ n : Nat) : Int) := by
  rw [shl, abs_mul, abs_of_nonneg (Int.natCast_nonneg _)]
  exact mul_le_mul_of_nonneg_right (abs_le_of_inInt16 hx) (Int.natCast_nonneg _)

/-- So is the shifted accumulator. -/
theorem abs_shr_bias_le {bias : Int} (hb : |bias| ≤ biasBound p) :
    |shr bias p.shiftA| ≤ 32768 * ((2 ^ p.shiftA : Nat) : Int) := by
  have pos : (0 : Int) < ((2 ^ p.shiftA : Nat) : Int) := by positivity
  rw [biasBound_eq, abs_le] at hb
  obtain ⟨lo, hi⟩ := hb
  rw [shr, abs_le]
  constructor
  · rw [Int.le_ediv_iff_mul_le pos]
    linarith
  · refine Int.ediv_le_of_le_mul pos ?_
    linarith

/-- `|d| <= 2^(16 + SHIFT_A)`. -/
theorem abs_hpfDiff_le {bias x : Int} (hb : |bias| ≤ biasBound p) (hx : InInt16 x) :
    |hpfDiff p bias x| ≤ 65536 * ((2 ^ p.shiftA : Nat) : Int) := by
  calc |hpfDiff p bias x| ≤ |shl x p.shiftA| + |shr bias p.shiftA| := abs_sub _ _
    _ ≤ 65536 * ((2 ^ p.shiftA : Nat) : Int) := by linarith [abs_shl_le hx p.shiftA, abs_shr_bias_le hb]

/-- With `K < 2^SHIFT_A` the product is below `2 * M`, which is `2^(16 + 2*SHIFT_A)` (R130). -/
theorem abs_hpfDiff_mul_k_lt (klt : p.k < 2 ^ p.shiftA) {bias x : Int} (hb : |bias| ≤ biasBound p) (hx : InInt16 x) :
    |hpfDiff p bias x * (p.k : Int)| < 2 * biasBound p := by
  have pos : (0 : Int) < ((2 ^ p.shiftA : Nat) : Int) := by positivity
  have k_lt : (p.k : Int) < ((2 ^ p.shiftA : Nat) : Int) := by exact_mod_cast klt
  have d_le := abs_hpfDiff_le hb hx
  rw [abs_mul, abs_of_nonneg (Int.natCast_nonneg p.k), biasBound_eq]
  calc |hpfDiff p bias x| * (p.k : Int)
    _ ≤ 65536 * ((2 ^ p.shiftA : Nat) : Int) * (p.k : Int) := mul_le_mul_of_nonneg_right d_le (Int.natCast_nonneg _)
    _ < 65536 * ((2 ^ p.shiftA : Nat) : Int) * ((2 ^ p.shiftA : Nat) : Int) := mul_lt_mul_of_pos_left k_lt (by linarith)
    _ = 2 * (32768 * ((2 ^ p.shiftA : Nat) : Int) ^ 2) := by ring

theorem two_mul_biasBound (p : Params) : 2 * biasBound p = ((2 ^ (16 + 2 * p.shiftA) : Nat) : Int) := by
  rw [biasBound, ← Nat.cast_ofNat, ← Nat.cast_mul, ← pow_succ']
  congr 2
  omega

/-- Settles O25: every step keeps the bound, which the accumulator 0 meets, so every stream keeps it. -/
theorem accumulatorStaysBounded : Obligations.AccumulatorStaysBounded := by
  intro p kpos kle
  refine ⟨fun bias x hb hx => ⟨abs_hpfBias_le kpos kle hb hx, fun klt => ?_⟩, fun xs int16 => ?_⟩
  · rw [← two_mul_biasBound]
    exact abs_hpfDiff_mul_k_lt klt hb hx
  · refine List.foldlRecOn xs (hpfBias p) (motive := fun b => |b| ≤ biasBound p) ?_ ?_
    · simpa using biasBound_nonneg p
    · exact fun bias hb x mem => abs_hpfBias_le kpos kle hb (int16 x mem)

/-! Registers of `17 + 2*SHIFT_A` bits (R129, R130). -/

/-- A register of that width holds every value below `2 * M`. -/
theorem wrapTo_eq_self {w : Nat} (hw : 17 + 2 * p.shiftA ≤ w) {x : Int} (hx : |x| < 2 * biasBound p) :
    wrapTo w x = x := by
  obtain ⟨v, rfl⟩ : ∃ v, w = v + 1 := ⟨w - 1, by omega⟩
  have fits : ((2 ^ (16 + 2 * p.shiftA) : Nat) : Int) ≤ 2 ^ v := by
    exact_mod_cast Nat.pow_le_pow_right two_pos (by omega)
  rw [two_mul_biasBound, abs_lt] at hx
  obtain ⟨lo, hi⟩ := hx
  exact BitVec.toInt_ofInt_eq_self (Nat.succ_pos v) (by simpa using by linarith) (by simpa using by linarith)

/-- An admissible `K` leaves `SHIFT_A` at least 1. -/
theorem one_lt_two_pow_shiftA (kpos : 0 < p.k) (klt : p.k < 2 ^ p.shiftA) :
    (1 : Int) < ((2 ^ p.shiftA : Nat) : Int) := by
  omega

section
variable {w : Nat} {bias x : Int} (kpos : 0 < p.k) (klt : p.k < 2 ^ p.shiftA) (hw : 17 + 2 * p.shiftA ≤ w)
  (hb : |bias| ≤ biasBound p) (hx : InInt16 x)
include kpos klt

theorem two_pow_lt_two_mul_biasBound : 65536 * ((2 ^ p.shiftA : Nat) : Int) < 2 * biasBound p := by
  rw [biasBound_eq]
  nlinarith [one_lt_two_pow_shiftA kpos klt]

include hb hx

theorem abs_hpfBias_le_of_lt : |hpfBias p bias x| ≤ biasBound p :=
  abs_hpfBias_le kpos (klt.le.trans (Nat.pow_le_pow_right two_pos (by omega))) hb hx

/-- The value that the output saturates is below `2 * M`. -/
theorem abs_sub_shr_hpfBias_lt : |x - shr (hpfBias p bias x) p.shiftB| < 2 * biasBound p := by
  have sample_lt : 32768 < biasBound p := by
    linarith [two_pow_lt_two_mul_biasBound kpos klt, one_lt_two_pow_shiftA kpos klt]
  calc |x - shr (hpfBias p bias x) p.shiftB| ≤ |x| + |shr (hpfBias p bias x) p.shiftB| := abs_sub _ _
    _ < 2 * biasBound p := by
      linarith [abs_le_of_inInt16 hx, abs_shr_le (hpfBias p bias x) p.shiftB, abs_hpfBias_le_of_lt kpos klt hb hx]

include hw

/-- No intermediate value of the accumulator's step leaves the register. -/
theorem hpfBiasAtWidth_eq : hpfBiasAtWidth w p bias x = hpfBias p bias x := by
  have step_lt := two_pow_lt_two_mul_biasBound kpos klt
  have sample : wrapTo w (shl x p.shiftA) = shl x p.shiftA :=
    wrapTo_eq_self hw (by linarith [abs_shl_le hx p.shiftA, one_lt_two_pow_shiftA kpos klt])
  have diff : wrapTo w (shl x p.shiftA - shr bias p.shiftA) = hpfDiff p bias x :=
    wrapTo_eq_self hw ((abs_hpfDiff_le hb hx).trans_lt step_lt)
  have product : wrapTo w (hpfDiff p bias x * (p.k : Int)) = hpfDiff p bias x * (p.k : Int) :=
    wrapTo_eq_self hw (abs_hpfDiff_mul_k_lt klt hb hx)
  have sum : wrapTo w (bias + shr (hpfDiff p bias x * (p.k : Int)) p.shiftA) = hpfBias p bias x :=
    wrapTo_eq_self hw (by
      change |hpfBias p bias x| < _
      linarith [abs_hpfBias_le_of_lt kpos klt hb hx, one_lt_two_pow_shiftA kpos klt])
  rw [hpfBiasAtWidth, sample, diff, product, sum]

/-- Nor does the value that the output saturates. -/
theorem hpfOutAtWidth_eq : hpfOutAtWidth w p bias x = hpfOut p bias x := by
  rw [hpfOutAtWidth, hpfOut, hpfBiasAtWidth_eq kpos klt hw hb hx,
    wrapTo_eq_self hw (abs_sub_shr_hpfBias_lt kpos klt hb hx)]

end

/-- Settles O26: every intermediate value fits the register, by the bounds of R130. -/
theorem finiteWidthFilterAgrees : Obligations.FiniteWidthFilterAgrees :=
  fun _ _ _ _ kpos klt hw hb hx => ⟨hpfBiasAtWidth_eq kpos klt hw hb hx, hpfOutAtWidth_eq kpos klt hw hb hx⟩

/-! Silence (R132). -/

@[simp] theorem hpfBias_zero (p : Params) : hpfBias p 0 0 = 0 := by
  simp [hpfBias, hpfDiff, shl_zero_left, shr_zero_left]

@[simp] theorem hpfOut_zero (p : Params) : hpfOut p 0 0 = 0 := by simp [hpfOut, shr_zero_left, clamp16]

/-- Every accumulator and every mixed sample is 0. -/
def Silent (s : State) : Prop := s.biasL = 0 ∧ s.biasR = 0 ∧ s.biasC = 0 ∧ s.mixed = ⟨0, 0, 0⟩

theorem silent_hpfStep {s : State} (h : Silent s) : Silent (hpfStep s) := by
  obtain ⟨l, r, c, mixed⟩ := h
  simp [Silent, hpfStep, l, r, c, mixed]

theorem silent_iterate_hpfStep {s : State} (h : Silent s) (n : Nat) : Silent (hpfStep^[n] s) :=
  Function.Iterate.rec Silent h (fun _ => silent_hpfStep) n

theorem filtered_hpfStep_of_silent {s : State} (h : Silent s) : (hpfStep s).filtered = ⟨0, 0, 0⟩ := by
  obtain ⟨l, r, c, mixed⟩ := h
  simp [hpfStep, l, r, c, mixed]

/-- Settles O27: a step keeps the state silent, and the last one filters a silent state. -/
theorem zeroInputStaysZero : Obligations.ZeroInputStaysZero := by
  intro n s l r c mixed
  have start : Silent s := ⟨l, r, c, mixed⟩
  obtain ⟨l', r', c', -⟩ := silent_iterate_hpfStep start n
  refine ⟨_, runInstrs_replicate (f := hpfStep) (fun _ => rfl) n s, l', r', c', fun pos => ?_⟩
  obtain ⟨m, rfl⟩ := Nat.exists_eq_add_one.2 pos
  rw [Function.iterate_succ_apply']
  exact filtered_hpfStep_of_silent (silent_iterate_hpfStep start m)

/-! One step on every channel (R126) and its saturation (R127). -/

/-- Settles O23: `hpfStep` is the three lines of R126 on each channel, each shift by its definition (R11). -/
theorem hpfFiltersEveryChannel : Obligations.HpfFiltersEveryChannel := fun _ => rfl

/-- Settles O24: the three branches of `clamp16`, the last operation of every filter step. -/
theorem filterOutputSaturates : Obligations.FilterOutputSaturates := by
  refine ⟨fun x => ?_, hpfOut_inInt16⟩
  rw [clamp16_eq]
  refine ⟨fun below => ?_, fun above => ?_, fun ⟨lo, hi⟩ => ?_⟩ <;> omega

end Sys2Proof.Machine

/-! PROOFS. The rows of the Register Dispatcher (spec/43_register_dispatcher.md R146 to R157): each read and write of a
generator, of the master-control block, of the extended block and of the fill region, with the gate open and closed. -/

namespace Sys2Proof.Machine

variable {p : Params} {s : State}

/-- A call on a generator as one update of the state: the generator takes the call, the trace records it (R14, R170). -/
theorem callGen_eq_setGen (g : GenId) (op : GenOp) (s : State) :
    callGen g op s = setGen g (genApply s.par g op (getGen g s)) { s with trace := s.trace ++ [⟨g, op⟩] } := by
  cases g <;> rfl

theorem writeGenerator_open (gate : s.menable = true) (g : GenId) (off : Nat) (d : Byte) :
    writeGenerator g off d s = setGen g (genApply s.par g (.write off d) (getGen g s))
      { s with trace := s.trace ++ [⟨g, .write off d⟩] } :=
  (gated_open _ gate).trans (callGen_eq_setGen ..)

theorem writeGenerator_closed (gate : s.menable = false) (g : GenId) (off : Nat) (d : Byte) :
    writeGenerator g off d s = s :=
  gated_closed _ gate

theorem writeStorage_open (gate : s.menable = true) (i : Nat) (d : Byte) :
    writeStorage i d s = { s with
      gen3 := genApply s.par .g3 (.writeStorage i d) s.gen3, trace := s.trace ++ [⟨.g3, .writeStorage i d⟩] } :=
  (gated_open _ gate).trans (callGen_eq_setGen ..)

theorem writeStorage_closed (gate : s.menable = false) (i : Nat) (d : Byte) : writeStorage i d s = s :=
  gated_closed _ gate

/-- Settles O35: the twenty rows are those of `rdGenRow`, and each reads its register. -/
theorem generatorReads : Obligations.GeneratorReads := by
  suffices rows : ∀ x : Instr × GenId × Nat, x ∈ _ → rdGenRow x.2.1 x.2.2 = some x.1 from
    fun x mem => exec_rdGenRow (rows x mem)
  decide

/-- Settles O36: the twenty rows are those of `wrGenRow`, and each writes its register through the gate. -/
theorem generatorWrites : Obligations.GeneratorWrites := by
  intro d s
  suffices rows : ∀ x : Instr × GenId × Nat, x ∈ _ → wrGenRow x.2.1 x.2.2 d = some x.1 by
    intro x mem
    rw [exec_wrGenRow (rows x mem)]
    exact ⟨fun gate => congrArg done (writeGenerator_open gate ..),
      fun gate => congrArg done (writeGenerator_closed gate ..)⟩
  simp [wrGenRow]

/-- `A_MCTRL` reads as seven ones below `menable` (R152). -/
theorem mctrlByte_eq_ite (s : State) : mctrlByte s = if s.menable then 0xFF else 0x7F := by
  unfold mctrlByte
  cases s.menable <;> rfl

/-- Settles O37: `mvol` and `mroute` are returned as they stand, `A_MCTRL` by its two values. -/
theorem masterRegisterReads : Obligations.MasterRegisterReads := by
  refine fun s => ⟨rfl, rfl, ?_⟩
  rw [← mctrlByte_eq_ite]
  rfl

/-- Settles O38: the gate lets the writes of `mvol` and `mroute` through or takes them away; `WR.MCTRL` has no gate. -/
theorem masterRegisterWrites : Obligations.MasterRegisterWrites :=
  fun _ _ => ⟨fun gate => ⟨congrArg done (gated_open _ gate), congrArg done (gated_open _ gate)⟩,
    fun gate => ⟨congrArg done (gated_closed _ gate), congrArg done (gated_closed _ gate)⟩, rfl⟩

/-- Settles O39: the read is not gated, the write is. -/
theorem storageAccesses : Obligations.StorageAccesses :=
  fun _ i d => ⟨rfl, fun gate => congrArg done (writeStorage_open gate i d),
    fun gate => congrArg done (writeStorage_closed gate i d)⟩

/-- Settles O41: a fill row names no register, so it returns the fill value or the state as it is. -/
theorem fillReadsOnesAndDropsWrites : Obligations.FillReadsOnesAndDropsWrites :=
  fun _ _ _ => ⟨rfl, rfl, rfl, rfl⟩

/-- Under its invariant a generator 3 of either kind stores the byte at an index of the extended block (R178, R201). -/
theorem genReadStorage_writeStorage {x : GenState} {i : Nat} (inv : GenInv p .g3 x) (lt : i < rangeSize p.rngW)
    (d : Byte) (j : Nat) :
    genReadStorage j (genApply p .g3 (.writeStorage i d) x) = if j = i then d else genReadStorage j x := by
  cases x with
  | refGen r =>
    obtain ⟨-, -, size, -⟩ := inv
    rw [if_pos rfl] at size
    simp [genReadStorage, genApply, refApply, refReadStorage, refWriteStorage, storeRead_set, size, lt]
  | unknown c =>
    obtain ⟨size, -, -⟩ := inv
    rw [if_pos rfl] at size
    simp [genReadStorage, genApply, contractApply, contractWriteStorage, storeRead_set, size, lt]

/-- Settles O40: the write through the open gate stores the byte, by generator 3's invariant. -/
theorem storageReturnsWhatWasWritten : Obligations.StorageReturnsWhatWasWritten := by
  intro s i d inv gate lt
  have stored := genReadStorage_writeStorage (inv.gens .g3) lt d
  refine ⟨_, _, congrArg done (writeStorage_open gate i d), rfl, ?_, fun j ne => ?_⟩
  · exact congrArg (s.readLog ++ [some ·]) ((stored i).trans (if_pos rfl))
  · exact (stored j).trans (if_neg ne)

end Sys2Proof.Machine

/-! PROOFS. A bus access at any address (spec/43_register_dispatcher.md R140 to R144): it does what the region asks for to
which `Route` sends the address. -/

namespace Sys2Proof.Machine

variable {p : Params} {a : Nat}

/-- An address outside the window is not selected (R142). -/
theorem route_outside (out : a < p.win.lo ∨ p.win.hi < a) : route p a = .notSelected := if_pos out

/-- An address outside the master block is none of its three (R7). -/
theorem ne_master_of_inRange_eq_false (wf : p.wf = true) (out : inRange p.rngM a = false) :
    a ≠ addrMvol p ∧ a ≠ addrMroute p ∧ a ≠ addrMctrl p := by
  rw [Bool.eq_false_iff, ne_eq, inRange_iff, Params.wf_master wf] at out
  simp only [addrMvol, addrMroute, addrMctrl]
  omega

/-- An address of the window that no sub-range holds is left to the fill region: it fails every test. -/
theorem route_of_no_range (wf : p.wf = true) (inWindow : inRange p.win a = true)
    (free : ∀ r ∈ p.ranges, inRange r a = false) : route p a = .fill := by
  have inside : ¬(a < p.win.lo ∨ p.win.hi < a) := by
    rw [inRange_iff] at inWindow
    omega
  simp only [Params.ranges, List.forall_mem_cons] at free
  obtain ⟨g1, g2, g3, g4, master, storage, -⟩ := free
  obtain ⟨notMvol, notMroute, notMctrl⟩ := ne_master_of_inRange_eq_false wf master
  unfold route
  rw [if_neg inside, g1, g2, g3, g4, storage]
  simp [notMvol, notMroute, notMctrl]

/-- Settles O6: the tests of `Route` exclude each other, so each clause is one region's rule. -/
theorem routeFollowsTheMap : Obligations.RouteFollowsTheMap :=
  fun _ wf => ⟨fun _ _ => route_of_inRange_genRange wf, route_addrMvol wf, route_addrMroute wf, route_addrMctrl wf,
    fun _ => route_of_inRange_rngW wf, fun _ => route_outside, fun _ => route_of_no_range wf⟩

/-- Settles O10: outside the window a read answers `NotSelected` and a write leaves the state. -/
theorem accessOutsideTheWindow : Obligations.AccessOutsideTheWindow := by
  intro s a d rest ok sound su lt out
  have unselected := route_outside out
  constructor
  · intro next
    rw [step_rd ok sound su lt next, runDecoded_decodeRd, unselected]
    rfl
  · intro next
    rw [step_wr ok sound su lt next, runDecoded_decodeWr, unselected]
    rfl

/-- Settles O11: by the region of the address; the read changes none of the fields that hold the window's bytes. -/
theorem busReadReturnsTheByte : Obligations.BusReadReturnsTheByte := by
  intro s a rest ok sound su lt next calls
  have stepped : step s = .next { s with
      pending := rest, readLog := s.readLog ++ [peek a s], trace := s.trace ++ calls } := by
    rw [step_rd ok sound su lt next, runDecoded_decodeRd, peek_eq_regionByte]
    subst calls
    cases route s.par a with
    | gen g off => rfl
    | storage i => rfl
    | _ => simp [done, respond, regionByte, mctrlByte]
  refine ⟨stepped, fun t b h => ?_⟩
  rw [stepped] at h
  cases h
  rfl

/-- Settles O12: only `A_MCTRL` routes to the one write without a gate. -/
theorem closedGateDiscardsEveryWrite : Obligations.ClosedGateDiscardsEveryWrite := by
  intro s a d rest ok sound su lt next
  rw [step_wr ok sound su lt next, runDecoded_decodeWr]
  constructor
  · intro closed other
    have gate : { s with pending := rest }.menable = false := closed
    cases region : route s.par a with
    | notSelected | fill => rfl
    | gen g off => exact congrArg done (writeGenerator_closed gate g off d)
    | mvol | mroute => exact congrArg done (gated_closed _ gate)
    | mctrl => exact absurd (addr_of_route region rfl).symm other
    | storage i => exact congrArg done (writeStorage_closed gate i d)
  · rintro rfl
    rw [route_addrMctrl (paramsOk_wf ok)]
    rfl

/-- Settles O13: by the region of the address, with the gate open in each. -/
theorem openGateWriteActsOnItsRegion : Obligations.OpenGateWriteActsOnItsRegion := by
  intro s a d rest ok sound su opened lt next
  have gate : { s with pending := rest }.menable = true := opened
  rw [step_wr ok sound su lt next, runDecoded_decodeWr]
  refine ⟨fun g off region => ?_, fun region => ?_, fun region => ?_, fun i region => ?_, ?_⟩
  · rw [region]
    exact congrArg done (writeGenerator_open gate g off d)
  · rw [region]
    exact congrArg done (gated_open _ gate)
  · rw [region]
    exact congrArg done (gated_open _ gate)
  · rw [region]
    exact congrArg done (writeStorage_open gate i d)
  · rintro (region | region) <;> rw [region] <;> rfl

end Sys2Proof.Machine

/-! PROOFS. The envelope over any number of envelope clocks (spec/44_generator_interface.md R181, R199), as the length
counter above: `n` of them iterate the generator's own envelope clock. -/

namespace Sys2Proof.Machine

variable {p : Params} {g : GenId}

theorem iterate_clkEnv_par (n : Nat) (s : State) : (clkEnv^[n] s).par = s.par := by
  induction n with
  | zero => rfl
  | succ n ih => rw [Function.iterate_succ_apply', clkEnv_par, ih]

/-- `n` envelope clocks clock each generator that has an envelope `n` times. -/
theorem getGen_iterate_clkEnv (ne : g ≠ .g3) (n : Nat) (s : State) :
    getGen g (clkEnv^[n] s) = (genApply s.par g .clockEnvelope)^[n] (getGen g s) := by
  induction n with
  | zero => rfl
  | succ n ih =>
    rw [Function.iterate_succ_apply', getGen_clkEnv _ _ ne, ih, iterate_clkEnv_par, Function.iterate_succ_apply']

theorem iterate_clockEnvelope_refGen (ne : g ≠ .g3) (n : Nat) (r : RefGen) :
    (genApply p g .clockEnvelope)^[n] (.refGen r) = .refGen (refClockEnvelope^[n] r) :=
  ((Function.Semiconj.iterate_right (f := GenState.refGen) (fun _ => congrArg _ (if_neg ne).symm) n).eq r).symm

theorem iterate_clockEnvelope_unknown (ne : g ≠ .g3) (n : Nat) (c : ContractGen) :
    (genApply p g .clockEnvelope)^[n] (.unknown c) = .unknown ((contractClockEnvelope p g)^[n] c) :=
  ((Function.Semiconj.iterate_right (f := GenState.unknown) (fun _ => congrArg _ (if_neg ne).symm) n).eq c).symm

/-- From `v` to `v'` the volume went in direction `up` only, and by at most `n`. -/
def VolumeMoved (up : Bool) (n : Nat) (v v' : BitVec 4) : Prop :=
  (up = true → v.toNat ≤ v'.toNat ∧ v'.toNat ≤ v.toNat + n)
    ∧ (up = false → v'.toNat ≤ v.toNat ∧ v.toNat ≤ v'.toNat + n)

/-- One more clock that keeps the volume or makes one clamped step. -/
theorem VolumeMoved.succ {up : Bool} {n : Nat} {u v w : BitVec 4} (moved : VolumeMoved up n u v)
    (next : w = volumeStep up v ∨ w = v) : VolumeMoved up (n + 1) u w := by
  obtain ⟨moveUp, moveDown⟩ := moved
  obtain ⟨stepUp, stepDown⟩ := volumeStep_bounds up v
  refine ⟨fun isUp => ?_, fun isDown => ?_⟩
  · have := moveUp isUp
    have := stepUp isUp
    rcases next with rfl | rfl <;> omega
  · have := moveDown isDown
    have := stepDown isDown
    rcases next with rfl | rfl <;> omega

/-- A clock that keeps the direction and makes at most one clamped step moves the volume one way, however often it
comes (R181). -/
theorem volumeMoved_iterate {α : Type} {clock : α → α} {up : α → Bool} {vol : α → BitVec 4}
    (keeps : ∀ x, up (clock x) = up x) (steps : ∀ x, vol (clock x) = volumeStep (up x) (vol x) ∨ vol (clock x) = vol x)
    (n : Nat) (x : α) : VolumeMoved (up x) n (vol x) (vol (clock^[n] x)) := by
  have direction (n : Nat) : up (clock^[n] x) = up x := by
    induction n with
    | zero => rfl
    | succ n ih => rw [Function.iterate_succ_apply', keeps, ih]
  induction n with
  | zero => exact ⟨fun _ => ⟨le_rfl, le_rfl⟩, fun _ => ⟨le_rfl, le_rfl⟩⟩
  | succ n ih =>
    rw [Function.iterate_succ_apply']
    exact ih.succ (direction n ▸ steps _)

section
variable {r : RefGen}

/-- An envelope clock writes the counter and the volume only (R199). -/
theorem iterate_refClockEnvelope_frame (n : Nat) (r : RefGen) : refClockEnvelope^[n] r
    = { r with envCnt := (refClockEnvelope^[n] r).envCnt, vol := (refClockEnvelope^[n] r).vol } := by
  induction n with
  | zero => rfl
  | succ n ih =>
    rw [Function.iterate_succ_apply']
    obtain ⟨-, e⟩ | ⟨-, ⟨-, e⟩ | ⟨-, e⟩⟩ := refClockEnvelope_cases (refClockEnvelope^[n] r) <;> rw [e]
    · exact ih
    · rw [ih]
    · rw [ih]

/-- The volume of a RefGen stays or makes one clamped step (R199). -/
theorem refClockEnvelope_vol (r : RefGen) :
    (refClockEnvelope r).vol = volumeStep (r.r2.getLsbD 3) r.vol ∨ (refClockEnvelope r).vol = r.vol := by
  obtain ⟨-, e⟩ | ⟨-, ⟨-, e⟩ | ⟨-, e⟩⟩ := refClockEnvelope_cases r <;> rw [e]
  · exact .inr rfl
  · exact .inr rfl
  · exact .inl rfl

/-- A period of 0 stops the envelope (R199). -/
theorem refClockEnvelope_stopped (zero : r.r2.extractLsb' 0 3 = 0) : refClockEnvelope r = r := by
  obtain ⟨-, e⟩ | ⟨ne, -⟩ := refClockEnvelope_cases r
  · exact e
  · exact absurd zero ne

/-- A counter above 1 only counts down (R199). -/
theorem refClockEnvelope_counts (period : r.r2.extractLsb' 0 3 ≠ 0) (above : 1 < r.envCnt.toNat) :
    refClockEnvelope r = { r with envCnt := r.envCnt - 1 } := by
  have pos : 0 < r.envCnt := by bv_omega
  obtain ⟨zero, -⟩ | ⟨-, ⟨-, e⟩ | ⟨expired, -⟩⟩ := refClockEnvelope_cases r
  · exact absurd zero period
  · rw [e, if_pos pos]
  · rw [if_pos pos] at expired
    bv_omega

/-- A counter of 1 or 0 expires: it is reloaded and the volume steps (R199). -/
theorem refClockEnvelope_expires (period : r.r2.extractLsb' 0 3 ≠ 0) (le : r.envCnt.toNat ≤ 1) :
    refClockEnvelope r = { r with envCnt := r.r2.extractLsb' 0 3, vol := refVolumeStep r } := by
  obtain ⟨zero, -⟩ | ⟨-, ⟨left, -⟩ | ⟨-, e⟩⟩ := refClockEnvelope_cases r
  · exact absurd zero period
  · split at left <;> bv_omega
  · exact e

/-- Fewer clocks than the counter holds only count down (R199). -/
theorem iterate_refClockEnvelope_counts (period : r.r2.extractLsb' 0 3 ≠ 0) {k : Nat} (lt : k < r.envCnt.toNat) :
    refClockEnvelope^[k] r = { r with envCnt := r.envCnt - BitVec.ofNat 3 k } := by
  induction k with
  | zero => simp
  | succ k ih =>
    have count : 1 < (r.envCnt - BitVec.ofNat 3 k).toNat := by bv_omega
    rw [Function.iterate_succ_apply', ih (by omega),
      refClockEnvelope_counts (r := { r with envCnt := r.envCnt - BitVec.ofNat 3 k }) period count, RefGen.mk.injEq]
    simp only [true_and, and_true]
    bv_omega

end

/-- Envelope clocks change neither the enable flag nor the direction, the length or the sample (R181). -/
theorem iterate_contractClockEnvelope_frame (n : Nat) (c : ContractGen) :
    ((contractClockEnvelope p g)^[n] c).active = c.active
      ∧ ((contractClockEnvelope p g)^[n] c).ctl.envUp = c.ctl.envUp
      ∧ ((contractClockEnvelope p g)^[n] c).ctl.len = c.ctl.len
      ∧ ((contractClockEnvelope p g)^[n] c).smp = c.smp := by
  induction n with
  | zero => exact ⟨rfl, rfl, rfl, rfl⟩
  | succ n ih =>
    rw [Function.iterate_succ_apply']
    exact ih

/-- Settles O50: either kind's envelope clock keeps its direction and makes at most one clamped step. -/
theorem envelopeMovesOneWayAndClamps : Obligations.EnvelopeMovesOneWayAndClamps := by
  intro s g n ne
  have ran := runInstrs_replicate (i := .clkEnv) (f := clkEnv) (fun _ => rfl) n s
  have clocked := getGen_iterate_clkEnv ne n s
  refine ⟨fun r isRef => ?_, fun c isUnknown => ?_⟩
  · rw [isRef, iterate_clockEnvelope_refGen ne] at clocked
    obtain ⟨rises, falls⟩ := volumeMoved_iterate (clock := refClockEnvelope) (up := fun r => r.r2.getLsbD 3)
      (vol := RefGen.vol) (fun r => congrArg (BitVec.getLsbD · 3) (refClockEnvelope_r2 r)) refClockEnvelope_vol n r
    refine ⟨_, _, ran, clocked, iterate_refClockEnvelope_frame n r, rises, falls, fun zero => ?_⟩
    exact congrArg RefGen.vol (Function.iterate_fixed (refClockEnvelope_stopped zero) n)
  · rw [isUnknown, iterate_clockEnvelope_unknown ne] at clocked
    obtain ⟨active, envUp, len, smp⟩ := iterate_contractClockEnvelope_frame (p := s.par) (g := g) n c
    have moved := volumeMoved_iterate (clock := contractClockEnvelope s.par g) (up := fun c => c.ctl.envUp)
      (vol := fun c => c.ctl.vol) (fun _ => rfl) (contractClockEnvelope_vol s.par · g) n c
    exact ⟨_, _, ran, clocked, active, envUp, len, smp, moved⟩

/-- Settles O51: a counter loaded with the period counts down to 1, and the next clock expires it. -/
theorem envelopeStepsAtItsPeriod : Obligations.EnvelopeStepsAtItsPeriod := by
  intro s g r k ne isRef period loaded le
  have ran := runInstrs_replicate (i := .clkEnv) (f := clkEnv) (fun _ => rfl) k s
  have clocked := getGen_iterate_clkEnv ne k s
  rw [isRef, iterate_clockEnvelope_refGen ne] at clocked
  refine ⟨_, _, ran, clocked, fun lt => ?_, fun eq => ?_⟩
  · rw [iterate_refClockEnvelope_counts period lt]
    exact ⟨rfl, by dsimp only; bv_omega⟩
  · have pos : 0 < r.envCnt.toNat := by bv_omega
    obtain ⟨j, rfl⟩ : ∃ j, k = j + 1 := ⟨k - 1, by omega⟩
    have last : (r.envCnt - BitVec.ofNat 3 j).toNat ≤ 1 := by bv_omega
    rw [Function.iterate_succ_apply', iterate_refClockEnvelope_counts period (by omega),
      refClockEnvelope_expires (r := { r with envCnt := r.envCnt - BitVec.ofNat 3 j }) period last]
    exact ⟨loaded.symm, refVolumeStep_toNat _⟩

end Sys2Proof.Machine

/-! PROOFS. The sweep clock of generator 1 (spec/44_generator_interface.md R182, R200). -/

namespace Sys2Proof.Machine

variable {p : Params} {m : Nat}

/-- `CLK_SWP` clocks generator 1 (R94). -/
theorem clkSwp_gen1 (s : State) : (clkSwp s).gen1 = genApply s.par .g1 .clockSweep s.gen1 := getGen_callGen_same s .g1 _

section
variable {r : RefGen}

/-- A disabled RefGen, or one with a period of 0, ignores the sweep clock (R200). -/
theorem refClockSweep_idle (h : r.active = false ∨ r.r0.extractLsb' 4 3 = 0) : refClockSweep m r = r := by
  obtain ⟨-, e⟩ | ⟨on, ne, -⟩ := refClockSweep_cases r m
  · exact e
  · rcases h with off | zero
    · cases on.symm.trans off
    · exact absurd zero ne

/-- A counter above 1 only counts down (R200). -/
theorem refClockSweep_counts (on : r.active = true) (period : r.r0.extractLsb' 4 3 ≠ 0) (above : 1 < r.swCnt.toNat) :
    refClockSweep m r = { r with swCnt := r.swCnt - 1 } := by
  have pos : 0 < r.swCnt := by bv_omega
  obtain ⟨off | zero, -⟩ | ⟨-, -, ⟨-, e⟩ | ⟨expired, -⟩⟩ := refClockSweep_cases r m
  · cases on.symm.trans off
  · exact absurd zero period
  · rw [e, if_pos pos]
  · rw [if_pos pos] at expired
    bv_omega

/-- A counter of 1 or 0 expires: it is reloaded and the frequency is swept (R200). -/
theorem refClockSweep_expires (on : r.active = true) (period : r.r0.extractLsb' 4 3 ≠ 0) (le : r.swCnt.toNat ≤ 1) :
    refClockSweep m r = refSweepStep m { r with swCnt := r.r0.extractLsb' 4 3 } := by
  obtain ⟨off | zero, -⟩ | ⟨-, -, ⟨left, -⟩ | ⟨-, e⟩⟩ := refClockSweep_cases r m
  · cases on.symm.trans off
  · exact absurd zero period
  · split at left <;> bv_omega
  · exact e

/-- The distance of a sweep step, `freq >> shift` (R200). -/
def sweepDelta (r : RefGen) : Nat := r.freq.toNat / 2 ^ (r.r0.extractLsb' 0 3).toNat

theorem toNat_freq_shift (r : RefGen) : (r.freq >>> (r.r0.extractLsb' 0 3).toNat).toNat = sweepDelta r := by
  rw [BitVec.toNat_ushiftRight, Nat.shiftRight_eq_div_pow, sweepDelta]

/-- A sweep step writes the frequency and the enable flag only (R200). -/
theorem refSweepStep_frame (m : Nat) (r : RefGen) :
    refSweepStep m r = { r with freq := (refSweepStep m r).freq, active := (refSweepStep m r).active } := by
  rw [RefGen.mk.injEq]
  simp

/-- The sweep goes down by the distance, which is at most the frequency (R200). -/
theorem refSweepStep_down (down : r.r0.getLsbD 3 = true) :
    (refSweepStep m r).freq.toNat = r.freq.toNat - sweepDelta r ∧ (refSweepStep m r).active = r.active := by
  have step : refSweepStep m r = { r with freq := r.freq - r.freq >>> (r.r0.extractLsb' 0 3).toNat } := if_pos down
  have le : r.freq >>> (r.r0.extractLsb' 0 3).toNat ≤ r.freq := by
    rw [BitVec.le_def, toNat_freq_shift]
    exact Nat.div_le_self ..
  rw [step]
  exact ⟨(BitVec.toNat_sub_of_le le).trans (congrArg _ (toNat_freq_shift r)), rfl⟩

/-- A sum above `FREQ_MAX` disables the channel (R200). -/
theorem refSweepStep_overflow (up : r.r0.getLsbD 3 = false) (exceeds : m < r.freq.toNat + sweepDelta r) :
    refSweepStep m r = { r with active := false } := by
  rw [refSweepStep, if_neg (by rw [up]; nofun), toNat_freq_shift, if_pos exceeds]

/-- Any other sum becomes the frequency (R200). -/
theorem refSweepStep_up (up : r.r0.getLsbD 3 = false) (le : r.freq.toNat + sweepDelta r ≤ m) :
    refSweepStep m r = { r with freq := sweepFreq (r.freq.toNat + sweepDelta r) } := by
  rw [refSweepStep, if_neg (by rw [up]; nofun), toNat_freq_shift, if_neg (Nat.not_lt.2 le)]

/-- A sum that 11 bits hold is that number (log 18). -/
theorem toNat_sweepFreq {sum : Nat} (fits : sum ≤ 2047) : (sweepFreq sum).toNat = sum := by
  rw [sweepFreq, if_pos fits, BitVec.toNat_ofNat]
  omega

end

/-- The first computed frequency becomes the frequency if it is within `FREQ_MAX`; without one the frequency stays
(R182). -/
theorem sweptFreq_eq (h : List GenOp) (ctl : GenControl) (fs : List Nat) :
    sweptFreq p h ctl fs = match fs with
      | [] => ctl.freq
      | f :: _ => if p.freqMax < f then sweptFreq p h ctl fs else f := by
  cases fs with
  | nil => rfl
  | cons f fs =>
    simp only [sweptFreq]
    split
    next le => rw [if_neg (by omega)]
    next gt => rw [if_pos (by omega)]

/-- Settles O52: a RefGen by its counter and then by the direction and the sum; a generator of unknown inside by the
frequencies it computes. -/
theorem sweepStepOrDisable : Obligations.SweepStepOrDisable := by
  constructor
  · intro s r isRef p f delta
    have clocked := clkSwp_gen1 s
    rw [isRef] at clocked
    refine ⟨_, refClockSweep s.par.freqMax r, rfl, clocked, refClockSweep_idle, fun on period above => ?_,
      fun on period le => ?_⟩
    · rw [refClockSweep_counts on period above]
      exact ⟨rfl, by dsimp only; bv_omega⟩
    · rw [refClockSweep_expires on period le]
      refine ⟨refSweepStep_frame .., fun down => ?_, fun up exceeds => ?_, fun up within => ?_⟩
      · obtain ⟨freq, active⟩ := refSweepStep_down (m := s.par.freqMax) (r := { r with swCnt := p }) down
        exact ⟨freq, active.trans on⟩
      · rw [refSweepStep_overflow (r := { r with swCnt := p }) up exceeds]
        exact ⟨rfl, rfl⟩
      · rw [refSweepStep_up (r := { r with swCnt := p }) up within]
        exact ⟨on, toNat_sweepFreq⟩
  · intro s c isUnknown fs
    have clocked := clkSwp_gen1 s
    rw [isUnknown] at clocked
    exact ⟨_, contractClockSweep s.par c, rfl, clocked, contractClockSweep_active s.par c, sweptFreq_eq .., rfl, rfl⟩

end Sys2Proof.Machine

/-! PROOFS. The calls that a cycle and the bus make on a generator (spec/44_generator_interface.md): `RUN` (R174, R197), the
trigger (R183, R196), and a register written and read back (R184, R194, R195). -/

namespace Sys2Proof.Machine

variable {p : Params} {g : GenId} {s : State} {d : Byte}

/-- A generator of unknown inside that is disabled presents 0 (R179). -/
theorem genSample_contractRun_disabled {c : ContractGen} (off : c.active = false) :
    genSample p (.unknown (contractRun p g c)) = 0 := by
  simp [genSample, contractRun_eq, off]

/-- A RefGen presents its volume if it is active (R197). -/
theorem genSample_refRun (r : RefGen) :
    genSample p (.refGen (refRun r)) = if r.active then r.vol.toNat else 0 := by
  rw [genSample, refRun_smp]
  split <;> rfl

/-- Settles O54: `RUN` runs each generator once, whatever its kind. -/
theorem disabledGeneratorIsSilent : Obligations.DisabledGeneratorIsSilent := by
  refine fun s g => ⟨_, rfl, fun r isRef => ?_, fun c isUnknown => ?_⟩
  · rw [runStep_par, getGen_runStep, isRef]
    exact ⟨genSample_refRun r, _, rfl⟩
  · rw [runStep_par, getGen_runStep, isUnknown]
    exact ⟨_, rfl, rfl, genSample_contractRun_disabled⟩

/-- The generators with an enable register (R191). -/
theorem hasDac_iff (g : GenId) : hasDac g = true ↔ g = .g3 ∨ g = .g4 := by cases g <;> decide

/-- The generator that a write through the open gate reaches takes it. -/
theorem getGen_writeGenerator_open (gate : s.menable = true) (g : GenId) (off : Nat) (d : Byte) :
    getGen g (writeGenerator g off d s) = genApply s.par g (.write off d) (getGen g s) := by
  rw [writeGenerator_open gate, getGen_setGen_same]

/-- A write to offset 4 with bit 7 set sets `len_mode` and the high frequency bits and triggers (R195, R196). -/
theorem refWrite_trigger (bit : d.getLsbD 7 = true) (r : RefGen) : refWrite g r 4 d
    = refTrigger g { r with lenMode := d.getLsbD 6, freq := d.extractLsb' 0 3 ++ r.freq.extractLsb' 0 8 } :=
  if_pos bit

/-- A write that does not set the trigger bit. -/
theorem isTrigger_eq_false {off : Nat}
    (h : off ≠ (Config.genTrigger p g).1 ∨ d.getLsbD (Config.genTrigger p g).2.val = false) :
    isTrigger p g off d = false := by
  rcases h with other | clear
  · simp [isTrigger, other]
  · rw [isTrigger, clear, Bool.and_false]

/-- Without an enable register, or with one that is on, a generator may be active (R183). -/
theorem mayBeActive_iff (g : GenId) (dac : Bool) : mayBeActive g dac = true ↔ g = .g1 ∨ g = .g2 ∨ dac = true := by
  cases g <;> simp [mayBeActive, hasDac]

/-- A write leaves no generator active whose enable register is off (R179, R183). -/
theorem contractWrite_active_of_dac_off {c : ContractGen} {off : Nat} (dac : g = .g3 ∨ g = .g4)
    (isOff : (contractWrite p g off d c).dac = false) : (contractWrite p g off d c).active = false := by
  have inactive : mayBeActive g (dacAfter p g off d c.dac) = false := by
    change dacAfter p g off d c.dac = false at isOff
    rw [mayBeActive, (hasDac_iff g).2 dac, isOff]
    rfl
  simp [contractWrite, inactive]

/-- Settles O53: RefGen's offset 4 triggers; a write to a generator of unknown inside by whether it sets the trigger bit. -/
theorem triggerReloadsTheCounters : Obligations.TriggerReloadsTheCounters := by
  refine ⟨fun s d r gate bit => ?_, fun p g off d c => ?_⟩
  · suffices rows : ∀ x : Instr × GenId, x ∈ _ → wrGenRow x.2 4 d = some x.1 by
      intro x mem isRef
      refine ⟨_, exec_wrGenRow (rows x mem) s, ?_⟩
      rw [getGen_writeGenerator_open gate, isRef, genApply, refApply, refWrite_trigger bit]
      simp [refTrigger, hasDac_iff]
    simp [wrGenRow]
  · refine ⟨_, rfl, rfl, rfl, rfl, ?_, ?_, contractWrite_active_of_dac_off⟩
    · intro offset bit
      have trigger : isTrigger p g off d = true := by rw [isTrigger, offset, bit, beq_self_eq_true]; rfl
      obtain ⟨active, ctl⟩ := contractWrite_trigger p c g off d trigger
      rw [contractApply, ctl, active]
      exact ⟨rfl, rfl, rfl, fun isG1 => if_pos isG1, mayBeActive_iff ..⟩
    · exact fun no isOff => contractWrite_disabled p c g off d isOff (isTrigger_eq_false no)

/-- What RefGen answers to a read of the offset to which `d` was written last (R192, R194, R195): generator 2 has no
register at offset 0, and of offset 4 the trigger bit and the bits without a register read 1. -/
def refReadBack (g : GenId) (off : Nat) (d : Byte) : Byte :=
  match off with
  | 0 => if g = .g2 then 0xFF else d
  | 4 => d ||| 0xB8
  | _ => d

/-- Offset 4 reads as the datum with the bits 7 and 5 to 3 set (R194). -/
theorem refCtl_refWrite4 (r : RefGen) (d : Byte) : refCtl (refWrite4 g r d) = d ||| 0xB8 := by
  have bits : ∀ d : Byte, 1#1 ++ BitVec.ofBool (d.getLsbD 6) ++ 7#3 ++ d.extractLsb' 0 3 = d ||| 0xB8 := by decide
  have frequency : (refWrite4 g r d).freq = d.extractLsb' 0 3 ++ r.freq.extractLsb' 0 8 := by
    unfold refWrite4
    split <;> rfl
  have mode : (refWrite4 g r d).lenMode = d.getLsbD 6 := by
    unfold refWrite4
    split <;> rfl
  rw [refCtl, frequency, mode, freq_high, bits]

theorem refRead_refWrite_same (g : GenId) (r : RefGen) {off : Nat} (lt : off < 5) (d : Byte) :
    refRead g (refWrite g r off d) off = refReadBack g off d := by
  match off with
  | 0 =>
    simp only [refRead, refWrite, refWrite0, refReadBack]
    split <;> rfl
  | 1 | 2 => rfl
  | 3 => exact freq_low ..
  | 4 => exact refCtl_refWrite4 r d

/-- A generator of unknown inside answers what was written, or what it defines if the register has a write-only bit
(R184). -/
theorem contractRead_contractWrite_same {c : ContractGen} {off : Nat} (lt : off < c.regs.length) (d : Byte) :
    contractRead p g off (contractWrite p g off d c)
      = if Config.genPlain p g off then d else Config.genRead p g (.write off d :: c.wave) off := by
  split
  next plain => exact contractRead_contractWrite p c g off d plain lt
  next writeOnly => simp [contractRead, contractWrite, writeOnly]

/-- A register written and then read through the block: with the gate open the generator answers after the write, else as
before it (R143, R146, R147). -/
theorem runInstrs_write_read {off : Nat} {i j : Instr} (write : wrGenRow g off d = some i)
    (read : rdGenRow g off = some j) (s : State) :
    ∃ t : State, runInstrs [i, j] s = .next t ∧ t.readLog = s.readLog
      ++ [some (if s.menable then genRead s.par g off (genApply s.par g (.write off d) (getGen g s))
        else genRead s.par g off (getGen g s))] := by
  refine ⟨readGenerator g off (writeGenerator g off d s), ?_, ?_⟩
  · rw [runInstrs_cons _ (exec_wrGenRow write s), runInstrs_cons _ (exec_rdGenRow read _)]
    rfl
  · obtain ⟨gate, e⟩ | ⟨gate, e⟩ := gated_cases s (callGen g (.write off d))
    · simp [writeGenerator, e, gate, readGenerator, respond, genByte]
    · simp [writeGenerator, e, gate, readGenerator, respond, genByte]

/-- Settles O55: the rows are those of `wrGenRow` and `rdGenRow`, and either kind answers what the register holds. -/
theorem refGenRegistersRoundTrip : Obligations.RefGenRegistersRoundTrip := by
  refine ⟨fun s d refs => ?_, fun s d c => ?_⟩
  · suffices rows : ∀ x : Instr × Instr × GenId × Nat × Byte, x ∈ _ → wrGenRow x.2.2.1 x.2.2.2.1 d = some x.1
        ∧ rdGenRow x.2.2.1 x.2.2.2.1 = some x.2.1 ∧ x.2.2.2.1 < 5 ∧ x.2.2.2.2 = refReadBack x.2.2.1 x.2.2.2.1 d by
      intro x mem
      obtain ⟨write, read, lt, value⟩ := rows x mem
      obtain ⟨r, isRef⟩ := refs x.2.2.1
      have same := refRead_refWrite_same x.2.2.1 r lt d
      have ran := runInstrs_write_read write read s
      rw [isRef] at ran ⊢
      rwa [value, ← same]
    simp only [List.forall_mem_cons]
    simp [wrGenRow, rdGenRow, refReadBack]
  · suffices rows : ∀ x : Instr × Instr × GenId × Nat, x ∈ _ → wrGenRow x.2.2.1 x.2.2.2 d = some x.1
        ∧ rdGenRow x.2.2.1 x.2.2.2 = some x.2.1 by
      intro x mem isUnknown lt
      obtain ⟨write, read⟩ := rows x mem
      have same := contractRead_contractWrite_same (p := s.par) (g := x.2.2.1) lt d
      have ran := runInstrs_write_read write read s
      rw [isUnknown] at ran ⊢
      rwa [← same]
    simp only [List.forall_mem_cons]
    simp [wrGenRow, rdGenRow]

end Sys2Proof.Machine

/-! PROOFS. One cycle (spec/45_cycle.md): its calls on the generators (R211, R215), the whole state it leaves as one update
(R210), and what follows of the gate (R216) and the output stream (R212, R213). -/

namespace Sys2Proof.Machine

/-- The calls of a list, one after the other. -/
def makeCalls (calls : List GenCall) (s : State) : State := calls.foldl (fun s c => callGen c.g c.op s) s

/-- What the calls of a list make of generator `g`, which takes those made on it. -/
def genCalls (p : Params) (g : GenId) (calls : List GenCall) (x : GenState) : GenState :=
  calls.foldl (fun x c => if c.g = g then genApply p g c.op x else x) x

variable (s : State)

theorem makeCalls_cons (c : GenCall) (calls : List GenCall) :
    makeCalls (c :: calls) s = makeCalls calls (callGen c.g c.op s) := rfl

theorem makeCalls_append (calls calls' : List GenCall) :
    makeCalls (calls ++ calls') s = makeCalls calls' (makeCalls calls s) := List.foldl_append

theorem makeCalls_ite (b : Bool) (calls : List GenCall) :
    makeCalls (if b then calls else []) s = if b then makeCalls calls s else s := by cases b <;> rfl

/-- One call as one update of the state: each generator takes the call if it is its own. -/
theorem callGen_eq_genCalls (c : GenCall) : callGen c.g c.op s = { s with
    gen1 := genCalls s.par .g1 [c] s.gen1, gen2 := genCalls s.par .g2 [c] s.gen2,
    gen3 := genCalls s.par .g3 [c] s.gen3, gen4 := genCalls s.par .g4 [c] s.gen4, trace := s.trace ++ [c] } := by
  obtain ⟨g, op⟩ := c
  cases g <;> rfl

/-- A list of calls as one update of the state: it writes the generators and the trace only (R170). -/
theorem makeCalls_eq (calls : List GenCall) : makeCalls calls s = { s with
    gen1 := genCalls s.par .g1 calls s.gen1, gen2 := genCalls s.par .g2 calls s.gen2,
    gen3 := genCalls s.par .g3 calls s.gen3, gen4 := genCalls s.par .g4 calls s.gen4, trace := s.trace ++ calls } := by
  induction calls generalizing s with
  | nil => rw [List.append_nil]; rfl
  | cons c calls ih => rw [makeCalls_cons, ih, callGen_eq_genCalls, List.append_cons s.trace c calls]; rfl

/-- The events of a tick are a list of calls (R92 lines 2 to 4). -/
theorem dispatchEvents_eq_makeCalls : dispatchEvents s = makeCalls (eventCalls 0 s.phase) s := by
  rw [eventCalls, if_pos rfl, makeCalls_append, makeCalls_append, makeCalls_ite, makeCalls_ite, makeCalls_ite]
  rfl

/-- `SEQ` makes the calls of its events and counts (R91). -/
theorem seqStep_eq_makeCalls : seqStep s = { makeCalls (eventCalls s.stage s.phase) s with
    stage := (s.stage + 1) % s.par.seqDiv, phase := if s.stage = 0 then s.phase + 1 else s.phase } := by
  by_cases tick : s.stage = 0
  · rw [seqStep_of_tick tick, decodeAndDispatch_eq, dispatchEvents_eq_makeCalls, makeCalls_eq, makeCalls_eq, if_pos tick,
      tick]
  · rw [seqStep_of_not_tick tick, eventCalls, if_neg tick, if_neg tick]
    rfl

/-- The calls of `RUN` (R211). -/
def runCalls : List GenCall := [⟨.g1, .run⟩, ⟨.g2, .run⟩, ⟨.g3, .run⟩, ⟨.g4, .run⟩]

theorem runStep_eq_makeCalls : runStep s = makeCalls runCalls s := rfl

/-- Generator `g` after the events and the `run` of the cycle. -/
def cycleGen (g : GenId) : GenState := genCalls s.par g (eventCalls s.stage s.phase ++ runCalls) (getGen g s)

theorem runStep_seqStep_eq : runStep (seqStep s) = { s with
    stage := (s.stage + 1) % s.par.seqDiv, phase := if s.stage = 0 then s.phase + 1 else s.phase
    gen1 := cycleGen s .g1, gen2 := cycleGen s .g2, gen3 := cycleGen s .g3, gen4 := cycleGen s .g4
    trace := s.trace ++ eventCalls s.stage s.phase ++ runCalls } := by
  rw [runStep_eq_makeCalls, seqStep_eq_makeCalls, makeCalls_eq, makeCalls_eq]
  simp only [cycleGen, genCalls, List.foldl_append, getGen]

/-- The mix of a cycle is of the samples of the generators that it has run (R111, R211). -/
theorem cycleMix_eq : cycleMix s = mixOf s.par s.mroute s.mvol (fun g => (genSample s.par (cycleGen s g) : Int)) := by
  have samples : smp (runStep (seqStep s)) = fun g => (genSample s.par (cycleGen s g) : Int) := by
    funext g
    rw [runStep_seqStep_eq]
    cases g <;> rfl
  rw [cycleMix, samples]

/-- The pair that a cycle delivers (R212). -/
def cycleSample : Sample :=
  ⟨hpfOut s.par s.biasL (cycleMix s).l, hpfOut s.par s.biasR (cycleMix s).r,
    if s.par.hasCenter then some (hpfOut s.par s.biasC (cycleMix s).c) else none⟩

theorem cycleStep_samples_eq : (cycleStep s).samples = s.samples ++ [cycleSample s] := cycleStep_samples s

/-- `CYCLE` as one update of the state (R210): the stream, the trace and the accumulators by their own laws, the rest by
what `SEQ` and `RUN` leave. -/
theorem cycleStep_eq : cycleStep s = { s with
    stage := (s.stage + 1) % s.par.seqDiv, phase := if s.stage = 0 then s.phase + 1 else s.phase
    gen1 := cycleGen s .g1, gen2 := cycleGen s .g2, gen3 := cycleGen s .g3, gen4 := cycleGen s .g4
    biasL := hpfBias s.par s.biasL (cycleMix s).l, biasR := hpfBias s.par s.biasR (cycleMix s).r
    biasC := if s.par.hasCenter then hpfBias s.par s.biasC (cycleMix s).c else s.biasC
    samples := s.samples ++ [cycleSample s], trace := s.trace ++ cycleCalls s.stage s.phase
    mixed := ⟨0, 0, 0⟩, filtered := ⟨0, 0, 0⟩ } := by
  rw [← cycleStep_samples_eq, ← cycleStep_trace_eq, ← cycleStep_biasL, ← cycleStep_biasR, ← cycleStep_biasC, cycleStep,
    mixStep_eq, runStep_seqStep_eq]
  rfl

/-- The calls of the events by the phase, as R215 lists them. -/
theorem eventCalls_eq (stage : Nat) (q : BitVec 3) : eventCalls stage q =
    if stage ≠ 0 then []
    else if q = 0 ∨ q = 4 then
      [⟨.g1, .clockLength⟩, ⟨.g2, .clockLength⟩, ⟨.g3, .clockLength⟩, ⟨.g4, .clockLength⟩]
    else if q = 2 ∨ q = 6 then
      [⟨.g1, .clockLength⟩, ⟨.g2, .clockLength⟩, ⟨.g3, .clockLength⟩, ⟨.g4, .clockLength⟩, ⟨.g1, .clockSweep⟩]
    else if q = 7 then [⟨.g1, .clockEnvelope⟩, ⟨.g2, .clockEnvelope⟩, ⟨.g4, .clockEnvelope⟩]
    else [] := by
  by_cases tick : stage = 0
  · subst tick
    decide +revert
  · rw [eventCalls, if_neg tick, if_pos tick]

/-- Every pair of `n` cycles is added at the end of the stream, and in range. -/
theorem iterate_cycleStep_samples (n : Nat) : ∃ new : List Sample,
    (cycleStep^[n] s).samples = s.samples ++ new ∧ new.length = n ∧ ∀ x ∈ new, SampleOk s.par x := by
  induction n with
  | zero => exact ⟨[], (List.append_nil _).symm, rfl, nofun⟩
  | succ n ih =>
    obtain ⟨new, added, length, ok⟩ := ih
    refine ⟨new ++ [cycleSample (cycleStep^[n] s)], ?_, by simp [length], ?_⟩
    · rw [Function.iterate_succ_apply', cycleStep_eq, added, List.append_assoc]
    · have next : SampleOk s.par (cycleSample (cycleStep^[n] s)) := iterate_cycleStep_par n s ▸ sampleOk_hpfOut ..
      exact List.forall_mem_append.2 ⟨ok, List.forall_mem_singleton.2 next⟩

/-- Settles O17: the calls of the events, of `RUN` and of `MIX`, in this order. -/
theorem callTraceOfACycle : Obligations.CallTraceOfACycle := by
  refine fun s => ⟨cycleStep s, rfl, ?_⟩
  rw [cycleStep_trace, eventCalls_eq]

/-- Settles O31: no field of the update that a cycle is depends on the gate. -/
theorem cycleIgnoresMenable : Obligations.CycleIgnoresMenable := by
  intro s b
  have mix : cycleMix { s with menable := b } = cycleMix s := by
    rw [cycleMix_eq, cycleMix_eq]
    rfl
  refine ⟨cycleStep s, rfl, cycleStep_menable s, congrArg Host.Outcome.next ?_⟩
  rw [cycleStep_eq, cycleStep_eq, cycleSample, mix]
  rfl

/-- Settles O33: by induction on the number of cycles. -/
theorem onePairPerCycleInOrder : Obligations.OnePairPerCycleInOrder := by
  refine ⟨fun s => ⟨resetStep s, rfl, rfl⟩, fun n s => ?_⟩
  obtain ⟨new, added⟩ := iterate_cycleStep_samples s n
  exact ⟨_, new, runInstrs_replicate (fun _ => rfl) n s, added⟩

/-- Settles O34: the frame is that of the one update a cycle is; each other clause is a law of `cycleStep`. -/
theorem cycleFrame : Obligations.CycleFrame := by
  intro s
  have mix : (mixStep (runStep (seqStep s))).mixed = cycleMix s := by simp [cycleMix]
  refine ⟨seqStep s, mixStep (runStep (seqStep s)), cycleStep s, rfl, rfl, rfl, ?_, ?_, ?_, getGen_cycleStep s, ?_⟩
  · rw [cycleStep_eq]
  · rw [cycleStep_stage, seqStep_stage]
  · rw [cycleStep_phase, seqStep_phase]
  · rw [mix]
    exact ⟨cycleStep_biasL s, cycleStep_biasR s, cycleStep_biasC s⟩

/-- Settles O19: the four calls, of which each generator takes its own. -/
theorem runRunsEveryGeneratorOnce : Obligations.RunRunsEveryGeneratorOnce :=
  fun s => congrArg Host.Outcome.next (makeCalls_eq s runCalls)

/-- Settles O29: `emitStep` is this update. -/
theorem emitDeliversOnePair : Obligations.EmitDeliversOnePair := fun _ => rfl

/-- Settles O30: `cycleStep` is the composition of the five sub-operations, each of which completes. -/
theorem cycleIsItsFiveSubOperations : Obligations.CycleIsItsFiveSubOperations := fun s => ⟨cycleStep s, rfl, rfl⟩

end Sys2Proof.Machine

/-! PROOFS. The host side of the cycle loop (spec/46_scheduler_adapter.md): no cycle reads it (R229), so a `RESUME` is a
number of cycles and then one update of the host side (R221, R226, R227); `GRANT` and `SYNC` (R224, R225). -/

namespace Sys2Proof.Machine

/-- The fields of the state outside the block (R229): the adapter's, the host input, the read log and the model's own
`exits`, `hostFault` and `pending`. -/
structure HostSide where
  clock : Int
  resumePt : ResumePt
  suspended : Bool
  sync : SyncMode
  readLog : List (Option Byte)
  exits : List Suspension
  hostFault : Option HostCause
  pending : List HostMove

/-- The host side of a state. -/
def hostSide (s : State) : HostSide where
  clock := s.clock
  resumePt := s.resumePt
  suspended := s.suspended
  sync := s.sync
  readLog := s.readLog
  exits := s.exits
  hostFault := s.hostFault
  pending := s.pending

/-- The block of `s` with the host side `h`. -/
def withHostSide (h : HostSide) (s : State) : State := { s with
  clock := h.clock, resumePt := h.resumePt, suspended := h.suspended, sync := h.sync, readLog := h.readLog
  exits := h.exits, hostFault := h.hostFault, pending := h.pending }

variable {s : State}

@[simp] theorem withHostSide_withHostSide (h h' : HostSide) (s : State) :
    withHostSide h (withHostSide h' s) = withHostSide h s := rfl

/-- A cycle neither reads nor writes the host side (R229): no field of the update that it is depends on it. -/
theorem cycleStep_withHostSide (h : HostSide) (s : State) :
    cycleStep (withHostSide h s) = withHostSide h (cycleStep s) := by
  have mix : cycleMix (withHostSide h s) = cycleMix s := by
    rw [cycleMix_eq, cycleMix_eq]
    rfl
  rw [cycleStep_eq, cycleStep_eq, cycleSample, mix]
  rfl

theorem iterate_cycleStep_withHostSide (h : HostSide) (n : Nat) (s : State) :
    cycleStep^[n] (withHostSide h s) = withHostSide h (cycleStep^[n] s) :=
  Function.Commute.iterate_left (cycleStep_withHostSide h) n s

theorem withHostSide_cycleStep (s : State) : withHostSide (hostSide s) (cycleStep s) = cycleStep s :=
  (cycleStep_withHostSide (hostSide s) s).symm

theorem withHostSide_iterate_cycleStep (n : Nat) (s : State) :
    withHostSide (hostSide s) (cycleStep^[n] s) = cycleStep^[n] s :=
  (iterate_cycleStep_withHostSide (hostSide s) n s).symm

/-! The loop's iterations that make a cycle: the cycle, then one update of the host side. -/

/-- The host side after the cycle of an iteration (R221 lines 5 and 7). -/
def cycledHostSide (s : State) : HostSide :=
  { hostSide s with clock := s.clock + (s.par.clkStep : Int), resumePt := .atTop }

/-- The state after the cycle of an iteration, at line 8. -/
def afterCycle (s : State) : State := withHostSide (cycledHostSide s) (cycleStep s)

@[simp] theorem afterCycle_par (s : State) : (afterCycle s).par = s.par := cycleStep_par s

@[simp] theorem afterCycle_clock (s : State) : (afterCycle s).clock = s.clock + (s.par.clkStep : Int) := rfl

theorem cycleStep_atTop (s : State) :
    cycleStep { s with resumePt := .atTop } = withHostSide { hostSide s with resumePt := .atTop } (cycleStep s) :=
  cycleStep_withHostSide { hostSide s with resumePt := .atTop } s

/-- Lines 8 and 9: with `sync` Normal the loop yields once the clock has caught up. -/
theorem adapterIteration_yields (normal : s.sync = .normal) (caughtUp : 0 ≤ s.clock + (s.par.clkStep : Int)) :
    adapterIteration s
      = withHostSide { cycledHostSide s with suspended := true, exits := s.exits ++ [.toCPU] } (cycleStep s) := by
  rw [adapterIteration_cycle s (by simp [normal]), cycleStep_atTop]
  exact if_pos ⟨caughtUp, by simp [normal]⟩

/-- Lines 8 and 10: while the clock is behind, or under forced sync, the loop goes on after the cycle. -/
theorem adapterIteration_goesOn (unforced : ¬(s.resumePt = .atTop ∧ s.sync = .all))
    (held : s.clock + (s.par.clkStep : Int) < 0 ∨ s.sync = .all) :
    adapterIteration s = afterCycle s := by
  rw [adapterIteration_cycle s unforced, cycleStep_atTop]
  exact if_neg fun ⟨caughtUp, normal⟩ => held.elim (fun late => by omega) normal

/-- The loop, where the first iteration makes a cycle and goes on. -/
theorem adapterLoop_goesOn (running : s.suspended = false) (unforced : ¬(s.resumePt = .atTop ∧ s.sync = .all))
    (held : s.clock + (s.par.clkStep : Int) < 0 ∨ s.sync = .all) (n : Nat) :
    adapterLoop (n + 1) s = adapterLoop n (afterCycle s) := by
  have goes : (afterCycle s).suspended = false := running
  rw [adapterLoop_succ, adapterIteration_goesOn unforced held, goes]
  rfl

/-! The number of cycles (R226). -/

/-- The last cycle: after it the clock has caught up. -/
theorem resumeCycles_of_caughtUp {k : Nat} {c : Int} (pos : 1 ≤ k) (caughtUp : 0 ≤ c + (k : Int)) :
    resumeCycles k c = 1 := by
  have lt : (-c + (k : Int) - 1) / (k : Int) < 2 := Int.ediv_lt_of_lt_mul (by omega) (by omega)
  simp only [resumeCycles]
  omega

/-- One cycle while the clock is behind, and then those that are due at the new clock. -/
theorem resumeCycles_of_late {k : Nat} {c : Int} (pos : 1 ≤ k) (late : c + (k : Int) < 0) :
    resumeCycles k c = resumeCycles k (c + (k : Int)) + 1 := by
  have shifted : -c + (k : Int) - 1 = -(c + (k : Int)) + (k : Int) - 1 + (k : Int) * 1 := by omega
  have due : 1 ≤ (-(c + (k : Int)) + (k : Int) - 1) / (k : Int) := Int.le_ediv_of_mul_le (by omega) (by omega)
  simp only [resumeCycles, shifted, Int.add_mul_ediv_left _ _ (show (k : Int) ≠ 0 by omega)]
  omega

/-! The whole loop (R226). -/

/-- The host side after a `RESUME` with `sync` Normal (R221 lines 7 and 9). -/
def caughtUpHostSide (s : State) : HostSide := { hostSide s with
  clock := s.clock + (resumeCycles s.par.clkStep s.clock : Int) * (s.par.clkStep : Int), resumePt := .atTop
  suspended := true, exits := s.exits ++ [.toCPU] }

theorem caughtUpHostSide_of_caughtUp (pos : 1 ≤ s.par.clkStep) (caughtUp : 0 ≤ s.clock + (s.par.clkStep : Int)) :
    caughtUpHostSide s = { cycledHostSide s with suspended := true, exits := s.exits ++ [.toCPU] } := by
  rw [caughtUpHostSide, resumeCycles_of_caughtUp pos caughtUp, Nat.cast_one, one_mul]
  rfl

theorem caughtUpHostSide_of_late (pos : 1 ≤ s.par.clkStep) (late : s.clock + (s.par.clkStep : Int) < 0) :
    caughtUpHostSide (afterCycle s) = caughtUpHostSide s := by
  rw [caughtUpHostSide, caughtUpHostSide, afterCycle_par, afterCycle_clock, resumeCycles_of_late pos late, Nat.cast_succ,
    add_one_mul, ← add_assoc, add_right_comm]
  rfl

/-- With `sync` Normal and fuel enough the loop makes the cycles of R226 (a) and (d) and yields to the CPU. -/
theorem adapterLoop_normal {n : Nat} (running : s.suspended = false) (normal : s.sync = .normal)
    (pos : 1 ≤ s.par.clkStep) (fuel : resumeFuel s ≤ n) :
    adapterLoop n s = withHostSide (caughtUpHostSide s) (cycleStep^[resumeCycles s.par.clkStep s.clock] s) := by
  induction n generalizing s with
  | zero => simp [resumeFuel] at fuel
  | succ n ih =>
    by_cases caughtUp : 0 ≤ s.clock + (s.par.clkStep : Int)
    · rw [adapterLoop_succ, adapterIteration_yields normal caughtUp, caughtUpHostSide_of_caughtUp pos caughtUp,
        resumeCycles_of_caughtUp pos caughtUp]
      rfl
    · have late : s.clock + (s.par.clkStep : Int) < 0 := by omega
      have enough : resumeFuel (afterCycle s) ≤ n := by
        simp only [resumeFuel, afterCycle_clock] at fuel ⊢
        omega
      calc adapterLoop (n + 1) s
        _ = adapterLoop n (afterCycle s) := adapterLoop_goesOn running (by simp [normal]) (.inl late) n
        _ = withHostSide (caughtUpHostSide s)
              (cycleStep^[resumeCycles s.par.clkStep (s.clock + (s.par.clkStep : Int))] (afterCycle s)) := by
          rw [ih (s := afterCycle s) running normal (by simpa using pos) enough, caughtUpHostSide_of_late pos late,
            afterCycle_par, afterCycle_clock]
        _ = withHostSide (caughtUpHostSide s) (cycleStep^[resumeCycles s.par.clkStep s.clock] s) := by
          rw [afterCycle, iterate_cycleStep_withHostSide, withHostSide_withHostSide, resumeCycles_of_late pos late,
            Function.iterate_succ_apply]

/-- Under forced sync the loop suspends at the top (R226 (b)). -/
theorem adapterLoop_forced (top : s.resumePt = .atTop) (all : s.sync = .all) (n : Nat) :
    adapterLoop (n + 1) s = withHostSide { hostSide s with
      resumePt := .afterSyncCheck, suspended := true, exits := s.exits ++ [.syncEvent] } s := by
  rw [adapterLoop_succ, adapterIteration_forced s top all]
  rfl

/-- Under forced sync the loop makes the cycle in flight and suspends again, whatever the clock is (R226 (c)). -/
theorem adapterLoop_inFlight (running : s.suspended = false) (inFlight : s.resumePt = .afterSyncCheck)
    (all : s.sync = .all) (n : Nat) :
    adapterLoop (n + 2) s = withHostSide { cycledHostSide s with
      resumePt := .afterSyncCheck, suspended := true, exits := s.exits ++ [.syncEvent] } (cycleStep s) := by
  rw [adapterLoop_goesOn running (by simp [inFlight]) (.inr all)]
  exact adapterLoop_forced (s := afterCycle s) rfl all n

/-- The state in which a `RESUME` starts the loop (R221 line 1), the move taken off. -/
def loopStart (rest : List HostMove) (s : State) : State :=
  withHostSide { hostSide s with suspended := false, pending := rest } s

/-- A `RESUME` of a suspended context runs the loop. -/
theorem step_resume {rest : List HostMove} (ok : paramsOk s = true) (sound : s.hostFault = none)
    (su : s.suspended = true) (next : s.pending = .resume :: rest) :
    step s = .next (adapterLoop (resumeFuel (loopStart rest s)) (loopStart rest s)) :=
  (step_of_pending ok sound next).trans (if_pos su)

/-- Settles O32: the change before the cycle is one of the host side, which the cycle does not read. -/
theorem cycleIgnoresTheHost : Obligations.CycleIgnoresTheHost :=
  fun s clock pt susp m log exits hf moves =>
    ⟨cycleStep s, rfl, congrArg Host.Outcome.next
      (cycleStep_withHostSide ⟨clock, pt, susp, m, log, exits, hf, moves⟩ s)⟩

/-- Settles O56: the loop with `sync` Normal, whose cycles do not see that the context runs. -/
theorem resumeRunsUntilCaughtUp : Obligations.ResumeRunsUntilCaughtUp := by
  intro s rest ok sound su normal next
  obtain ⟨-, -, -, -, pos, -⟩ := Params.wf_scalars (paramsOk_wf ok)
  refine ⟨_, runInstrs_replicate (fun _ => rfl) _ s, ?_⟩
  rw [step_resume ok sound su next, adapterLoop_normal (s := loopStart rest s) rfl normal pos le_rfl,
    loopStart, iterate_cycleStep_withHostSide,
    ← withHostSide_iterate_cycleStep (resumeCycles s.par.clkStep s.clock) s]
  rfl

/-- Settles O57: at the top the loop suspends at once, after the sync check with the cycle in flight. -/
theorem resumeUnderForcedSync : Obligations.ResumeUnderForcedSync := by
  intro s rest ok sound su all next
  rw [step_resume ok sound su next, resumeFuel]
  refine ⟨fun top => ?_, fun inFlight => ⟨cycleStep s, rfl, ?_⟩⟩
  · rw [adapterLoop_forced (s := loopStart rest s) top all, su]
    rfl
  · rw [adapterLoop_inFlight (s := loopStart rest s) rfl inFlight all, loopStart, cycleStep_withHostSide,
      ← withHostSide_cycleStep s]
    rfl

/-- Settles O58: either move, made while the context is suspended. -/
theorem grantAndSyncMoves : Obligations.GrantAndSyncMoves :=
  fun _ _ ok sound su =>
    ⟨fun _ next => (step_of_pending ok sound next).trans (if_pos su),
      fun _ next => (step_of_pending ok sound next).trans (if_pos su)⟩

end Sys2Proof.Machine

/-! PROOFS. `RESET` and what it leaves (spec/70_reset_and_hazards.md R260, R261, R263). -/

namespace Sys2Proof.Machine

/-- Settles O44: `resetStep` is this update. -/
theorem resetSetsEveryField : Obligations.ResetSetsEveryField := fun _ => rfl

/-- Settles O45: the four generators are the only fields of the state after `RESET` that depend on the one before. -/
theorem resetGivesTheResetState : Obligations.ResetGivesTheResetState := by
  refine ⟨fun s ref refs => ?_, fun _ _ _ => rfl, fun p g _ => ?_⟩
  · have power : ∀ g, genPower s.par g (getGen g s) = .refGen (refPower s.par.waveInit g) := fun g => by
      obtain ⟨r, e⟩ := refs g
      rw [e]
      rfl
    have power1 : genPower s.par .g1 s.gen1 = _ := power .g1
    have power2 : genPower s.par .g2 s.gen2 = _ := power .g2
    have power3 : genPower s.par .g3 s.gen3 = _ := power .g3
    have power4 : genPower s.par .g4 s.gen4 = _ := power .g4
    rw [resetSetsEveryField s, power1, power2, power3, power4, ref]
    rfl
  · exact ⟨contractPower p g, rfl, rfl, rfl, Nat.min_zero _, rfl, rfl⟩

/-- Byte `i` of the extended block after `RESET` is that of WAVE_INIT (R193, R263). -/
theorem storageByte_reset {i : Nat} (lt : i < 16) : storageByte i State.reset = Config.waveInit i := by
  have byte : ((List.range 16).map Config.waveInit)[i]? = some (Config.waveInit i) := by simp [lt]
  show storeRead ((List.range 16).map Config.waveInit) i = _
  rw [storeRead, byte]

theorem peek_storage_reset {i : Nat} (lt : i < 16) : peek (0xFF30 + i) State.reset = some (Config.waveInit i) := by
  have routed : route State.reset.par (0xFF30 + i) = .storage i :=
    route_storage (paramsOk_wf invariantHoldsAtReset.2) lt
  rw [peek_eq_regionByte, routed, ← storageByte_reset lt]
  rfl

/-- The first cycle after `RESET` mixes four silent generators. -/
theorem cycleMix_reset : cycleMix State.reset = ⟨0, 0, 0⟩ := rfl

/-- Settles O46: each region's byte in the reset state, and the first cycle, a tick at phase 0 with a zero mix. -/
theorem readsRightAfterReset : Obligations.ReadsRightAfterReset := by
  refine ⟨rfl, rfl, rfl, by decide, fun i => peek_storage_reset, by decide, rfl, by decide, rfl, rfl,
    cycleStep State.reset, rfl, ?_, ?_⟩
  · rw [cycleStep_samples, cycleMix_reset]
    simp [State.reset, Params.ref]
  · rw [cycleStep_trace]
    rfl

end Sys2Proof.Machine

/-! PROOFS. The one fault (spec/60_exceptions.md R240, R241, R242): no operation of the block raises it, the moves of the
host raise it by cause, and a host that keeps the rules raises none. -/

namespace Sys2Proof.Machine

variable {s : State}

/-- Settles O42: the meaning of every instruction is `done`, of one update or another. -/
theorem noOperationStops : Obligations.NoOperationStops := fun i _ => by cases i <;> exact ⟨_, rfl⟩

/-- Without a move of the host a step does nothing (log 9). -/
theorem step_idle (ok : paramsOk s = true) (sound : s.hostFault = none) (idle : s.pending = []) : step s = .next s := by
  simp [step, ok, nextMove, sound, makeMove, idle, done]

theorem step_illFormed (illFormed : paramsOk s = false) : step s = .refused .illFormedParameters := by
  simp [step, illFormed]

/-- Settles O9: the parameters are tested before anything else, and then there is no move to make. -/
theorem stepIdlesOrRefuses : Obligations.StepIdlesOrRefuses := fun _ => ⟨step_idle, step_illFormed⟩

/-! The moves of a host that breaks the rules: what each answers while the context runs. -/

section
variable (running : s.suspended = false)
include running

theorem hostMove_resume_running : hostMove .resume s = hostViolation .resumeOfRunningContext s :=
  if_neg (by simp [running])

theorem hostMove_grant_running (n : Nat) : hostMove (.grant n) s = hostViolation .accessDuringCycle s :=
  if_neg (by simp [running])

theorem hostMove_sync_running (m : SyncMode) : hostMove (.sync m) s = hostViolation .accessDuringCycle s :=
  if_neg (by simp [running])

theorem hostMove_access_running {w : Nat} {c : Command} (decoded : decode s.par w = .ok c) (access : c.isAccess = true) :
    hostMove (.cmd w) s = hostViolation .accessDuringCycle s := by
  rw [hostMove, runCommand, decoded]
  exact issue_access_running c access running

end

/-- The cause of the fault that a move inside a cycle raises (R241). -/
def intrusionCause : Intrusion → HostCause
  | .resume => .resumeOfRunningContext
  | .rd _ | .wr _ _ | .grant _ | .sync _ => .accessDuringCycle

/-- An intruding move is the same move of a running context (log 12). -/
theorem intrude_eq (m : Intrusion) (s : State) :
    intrude m s = hostViolation (intrusionCause m) { s with suspended := false } := by
  cases m with
  | rd a => exact issue_access_running _ (decodeRd_isAccess _ _) rfl
  | wr a d => exact issue_access_running _ (decodeWr_isAccess _ _ _) rfl
  | grant n => exact hostMove_grant_running (s := { s with suspended := false }) rfl n
  | sync m => exact hostMove_sync_running (s := { s with suspended := false }) rfl m
  | resume => exact hostMove_resume_running (s := { s with suspended := false }) rfl

/-- Settles O59: each violation is the fault of its cause, which a `RESET` that comes next puts off; after it a step is
that `RESET` or the fault. -/
theorem movesInsideACycleFault : Obligations.MovesInsideACycleFault := by
  refine ⟨resetNext_iff, fun s rest ok sound => ⟨fun su => ?_, ?_⟩, fun s c ok faulted => ⟨?_, ?_⟩⟩
  · have running : ({ s with pending := rest } : State).suspended = false := su
    have move {m : HostMove} (next : s.pending = m :: rest) := step_of_pending ok sound next
    exact ⟨fun next => (move next).trans (hostMove_resume_running running),
      fun n next => (move next).trans (hostMove_grant_running running n),
      fun m next => (move next).trans (hostMove_sync_running running m),
      fun a lt next => (move next).trans
        (hostMove_access_running running (decode_encodeCmd_rd a lt) (decodeRd_isAccess _ a)),
      fun a d lt next => (move next).trans
        (hostMove_access_running running (decode_encodeCmd_wr a d lt) (decodeWr_isAccess _ a d))⟩
  · intro m next
    rw [step_of_pending ok sound next]
    refine (intrude_eq m _).trans ?_
    cases m <;> rfl
  · intro other
    rw [step_faulted ok faulted, other]
    rfl
  · intro w rest next decoded
    rw [step_faulted ok faulted, if_pos ((resetNext_iff s).2 ⟨w, rest, next, decoded⟩), makeMove_reset next decoded]

/-! The moves of a host that keeps the rules. -/

/-- The outcome is a next state in which the context is suspended and no host fault stands. -/
def Settles (o : Host.Outcome State Fault Refusal) : Prop := ∃ t, o = .next t ∧ t.suspended = true ∧ t.hostFault = none

section
variable (su : s.suspended = true) (sound : s.hostFault = none)
include su sound

theorem Kept.settles {t : State} (k : Kept s t) : Settles (.next t) :=
  ⟨t, rfl, k.suspended.trans su, k.hostFault.trans sound⟩

/-- A word of the format's width is one of the four operations, each of which completes (R72, R240). -/
theorem runCommand_settles {w : Nat} (lt : w < 2 ^ cmdBits s.par) : Settles (runCommand w s) := by
  obtain ⟨c, fields⟩ := Cmd.exists_fields s.par w
  have runs : runCommand w s = runDecoded (c.command s.par) s := by
    rw [runCommand, decode_of_fields lt fields]
    exact issue_lawful _ fun _ => su
  rw [runs]
  cases c with
  | cycle => exact (kept_cycleStep s).settles su sound
  | reset => exact ⟨resetStep s, rfl, rfl, rfl⟩
  | rd a =>
    have completes := runDecoded_decodeRd s s.par a
    exact completes ▸ (runDecoded_decodeRd_kept s.par a completes).settles su sound
  | wr a d =>
    have completes := runDecoded_decodeWr s s.par a d
    exact completes ▸ (runDecoded_decodeWr_kept s.par a d completes).settles su sound

/-- A `RESUME` terminates, suspended (R226). -/
theorem resume_settles (pos : 1 ≤ s.par.clkStep) : Settles (resume s) :=
  ⟨_, if_pos su, adapterLoop_suspended pos le_rfl, by simpa using sound⟩

/-- Every move that the host may make completes. -/
theorem hostMove_settles (wf : s.par.wf = true) {m : HostMove} (lawful : m.lawful s.par) : Settles (hostMove m s) := by
  cases m with
  | cmd w => exact runCommand_settles (w := w) su sound lawful
  | resume =>
    obtain ⟨-, -, -, -, pos, -⟩ := Params.wf_scalars wf
    exact resume_settles su sound pos
  | grant n => exact ⟨_, if_pos su, su, sound⟩
  | sync m => exact ⟨_, if_pos su, su, sound⟩
  | intrude m => exact lawful.elim

end

/-- Settles O60: the step is the host's next move, which keeps the rules, or none. -/
theorem lawfulHostNeverStops : Obligations.LawfulHostNeverStops := by
  intro s ok sound su lawful
  cases moves : s.pending with
  | nil => exact ⟨s, step_idle ok sound moves, su, sound⟩
  | cons m rest =>
    rw [step_of_pending ok sound moves]
    exact hostMove_settles (s := { s with pending := rest }) su sound (paramsOk_wf ok) (lawful m (by simp [moves]))

end Sys2Proof.Machine
